-- ==== Sys2Proof/Word.lean ====
section
/-! DEFINITION. The fixed-size values of MDX (spec 00_scope.md R9, R10, R17): bytes, 32-bit words, the
9-bit register offsets, and the byte buffers and the chaining state as vectors of their fixed size. -/

namespace Sys2Proof

/-- One byte (R17). -/
abbrev Byte := BitVec 8

/-- One host register word, and one word of the chaining state: 32 bits (R9, R10). -/
abbrev Word := BitVec 32

/-- A byte offset of the 512-byte register space, 0x000 to 0x1FF (R70, R71). -/
abbrev Offset := BitVec 9

/-- The chaining state, eight 32-bit words, word 0 first (R9, R33). -/
abbrev ChainState := Vector Word 8

/-- A digest: 32 bytes, the size of DIN and of DOUT (R9, R50, R51). -/
abbrev Digest := Vector Byte 32

/-- One 64-byte block, the size of BLK (R9, R53). -/
abbrev Block := Vector Byte 64

/-- The padding buffer PAD: 72 bytes (R10, R52). -/
abbrev PadBuffer := Vector Byte 72

end Sys2Proof
end

