-- ==== Sys2Proof/Syntax.lean ====
section
/-! DEFINITION. The commands of MDX, one constructor for each row of spec/opcode_table.json (spec 30_encoding.md R101). -/

namespace Sys2Proof

/-- An MDX command (R101). The only immediate is SEQ_PUSH's count N, the 3-bit field w[10:8], as it stands (R106). -/
inductive Instr where
  /-- NOP, 0x00000000 (44_control.md R190). -/
  | nop
  /-- SOFT_RESET, 0x00000001 (44_control.md R191). -/
  | softReset
  /-- CLR_ERR, 0x00000002 (44_control.md R192). -/
  | clrErr
  /-- PAD_GEN, 0x00000010 (41_padding.md R122). -/
  | padGen
  /-- ST_DECODE, 0x00000020 (42_state_codec.md R142). -/
  | stDecode
  /-- ST_ENCODE, 0x00000021 (42_state_codec.md R145). -/
  | stEncode
  /-- SEQ_CLEAR, 0x00000030 (43_sequencer.md R164). -/
  | seqClear
  /-- SEQ_PUSH n, 0x00000031 + n*0x100 (43_sequencer.md R165). -/
  | seqPush (n : BitVec 3)
  /-- SEQ_FLUSH, 0x00000032 (43_sequencer.md R166). -/
  | seqFlush
  /-- SEQ_PUSHPAD, 0x00000033 (43_sequencer.md R168). -/
  | seqPushpad
  deriving DecidableEq, Repr

end Sys2Proof
end

