-- ==== Sys2Proof/WellFormed.lean ====
section
/-! DEFINITION. Which commands are well formed (spec 30_encoding.md R102, R106, R111). -/

namespace Sys2Proof

/-- The legal counts of SEQ_PUSH are 1 to 4 (R106). -/
def countLegal (n : BitVec 3) : Bool := decide (1 ≤ n.toNat) && decide (n.toNat ≤ 4)

/-- A command the assembler accepts (R111). The one operand to check is SEQ_PUSH's count. -/
def Instr.wf : Instr → Bool
  | .nop => true
  | .softReset => true
  | .clrErr => true
  | .padGen => true
  | .stDecode => true
  | .stEncode => true
  | .seqClear => true
  | .seqPush n => countLegal n
  | .seqFlush => true
  | .seqPushpad => true

end Sys2Proof
end

