-- ==== Sys2Proof/Decode.lean ====
section
/-! DEFINITION. Command words (spec 30_encoding.md): the fields of the one format, the decoder, total on the 2^32 words and
rejecting by name, and after it the encoder, written from the same opcode map. -/

namespace Sys2Proof

/-- OP, w[7:0] (R100). -/
def opField (w : Word) : BitVec 8 := w.extractLsb' 0 8

/-- N, w[10:8] (R100). -/
def nField (w : Word) : BitVec 3 := w.extractLsb' 8 3

/-- RSV, w[31:11] (R100). -/
def rsvField (w : Word) : BitVec 21 := w.extractLsb' 11 21

/-- Why a word is no command. All three raise the same ILLEGAL_COMMAND (R107). -/
inductive DecodeReject where
  /-- The opcodes 0x03..0x0F, 0x11..0x1F, 0x22..0x2F and 0x34..0xFF. -/
  | reservedOpcode
  /-- A nonzero bit in [31:8] for an opcode other than SEQ_PUSH, or in [31:11] for SEQ_PUSH. -/
  | reservedBits
  /-- SEQ_PUSH with N in 0, 5, 6, 7. -/
  | badCount
  deriving DecidableEq, Repr

/-- What the decoder answers. -/
inductive DecodeResult where
  | ok (i : Instr)
  | reject (why : DecodeReject)
  deriving DecidableEq, Repr

/-- The opcode map (R101): OP, to the command it names with N filled in from the word, or none for a reserved opcode (R107). -/
def commandOfOpcode (op : BitVec 8) (n : BitVec 3) : Option Instr :=
  if op = 0x00 then some .nop
  else if op = 0x01 then some .softReset
  else if op = 0x02 then some .clrErr
  else if op = 0x10 then some .padGen
  else if op = 0x20 then some .stDecode
  else if op = 0x21 then some .stEncode
  else if op = 0x30 then some .seqClear
  else if op = 0x31 then some (.seqPush n)
  else if op = 0x32 then some .seqFlush
  else if op = 0x33 then some .seqPushpad
  else none

/-- Decoding of a command word (R102, R107, R108). -/
def decode (w : Word) : DecodeResult :=
  match commandOfOpcode (opField w) (nField w) with
  | none => .reject .reservedOpcode
  | some (.seqPush n) =>
    if rsvField w ≠ 0 then .reject .reservedBits
    else if countLegal n then .ok (.seqPush n)
    else .reject .badCount
  | some i => if nField w ≠ 0 ∨ rsvField w ≠ 0 then .reject .reservedBits else .ok i

/-- The opcode of a command (R101). -/
def opcodeOf : Instr → BitVec 8
  | .nop => 0x00
  | .softReset => 0x01
  | .clrErr => 0x02
  | .padGen => 0x10
  | .stDecode => 0x20
  | .stEncode => 0x21
  | .seqClear => 0x30
  | .seqPush _ => 0x31
  | .seqFlush => 0x32
  | .seqPushpad => 0x33

/-- N of a command: the count of SEQ_PUSH, and 0 for every other command (R100, R101). -/
def countOf : Instr → BitVec 3
  | .nop => 0
  | .softReset => 0
  | .clrErr => 0
  | .padGen => 0
  | .stDecode => 0
  | .stEncode => 0
  | .seqClear => 0
  | .seqPush n => n
  | .seqFlush => 0
  | .seqPushpad => 0

/-- The command word: OP + N*0x100, with RSV = 0 (R101). -/
def encode (i : Instr) : Word :=
  (opcodeOf i).setWidth 32 + (countOf i).setWidth 32 * 0x100

/-- The class of a command (R103): a long one is issued by the CMD write and completed later, a short one acts within the
write. -/
def Instr.isLong : Instr → Bool
  | .nop => false
  | .softReset => false
  | .clrErr => false
  | .padGen => true
  | .stDecode => true
  | .stEncode => true
  | .seqClear => true
  | .seqPush _ => true
  | .seqFlush => true
  | .seqPushpad => true

/-- What the decoder reads from the low `nbits` bits of `w`, presented as one host-bus word. A command is one 32-bit word
(R108), so a number that does not fit in 32 bits is none. -/
def decodeTableWord (nbits w : Nat) : Option Instr :=
  let v := w % Nat.pow 2 nbits
  if v < 0x100000000 then
    match decode (BitVec.ofNat 32 v) with
    | .ok i => some i
    | .reject _ => none
  else none

end Sys2Proof
end

