-- ==== Sys2Proof/Config.lean ====
section
/-! DEFINITION. What the spec leaves open: the parameters of the model (spec 00_scope.md R11 to R16, 10_state.md R57)
and the free values (70_reset_and_hazards.md R279). None has a body, so no proof can see a value of it. -/

namespace Sys2Proof.Config

/-- COMPRESS, the external compression function: total, a function of the chaining state and of the block, and nothing
else is assumed of it (R6, R15; assumption log 1). -/
opaque compress : ChainState → Block → ChainState

/-- The 32-bit value that the k-th unspecified host read returns (R279: "a free draw of 32 bits"); State.draws is k
(assumption log 2). -/
opaque freeRead : Nat → Word

/-- MDX_BASE, the host-bus address at which the register space starts; the platform decides it (R11). -/
opaque mdxBase : Nat

/-- ACCESS_SIZES, the access sizes in bytes the host bus can present (R14). The machine accepts a transaction of any of the
three sizes, whatever this is (assumption log 8). -/
opaque accessSizes : List Nat

end Sys2Proof.Config
end

