-- ==== Sys2Proof/Machine/State.lean ====
section
/-! DEFINITION. The state of MDX as plain data: every element of spec 10_state.md R32, the hidden state of R55 and R56, and the
model's own fields (the pending events, the host port's read data, the counter of free draws); Fault and Refusal; reset. -/

namespace Sys2Proof.Machine

/-- The sizes a host access may have, in bytes 1, 2 and 4 (20_memory.md R71, 00_scope.md R14). -/
inductive AccessSize where
  | byte
  | half
  | word
  deriving DecidableEq, Repr

/-- The kind of a host access, with the data of a write (R71). -/
inductive AccessKind where
  | read
  | write (wdata : Word)
  deriving DecidableEq, Repr

/-- A host access `(kind, off, size, wdata)` (R71). The platform has decoded MDX_BASE: only nine offset bits reach MDX. -/
structure Transaction where
  kind : AccessKind
  off : Offset
  size : AccessSize
  deriving DecidableEq, Repr

/-- A request on the compression-core port: copies of the state and of the block sent (20_memory.md R83). -/
structure CoreRequest where
  h : ChainState
  blk : Block
  deriving DecidableEq, Repr

/-- One event of the single total order of 20_memory.md R85: whichever agent of 10_state.md R30 acts next, or the reset
input. -/
inductive Event where
  /-- The host performs one register transaction (R80). -/
  | host (t : Transaction)
  /-- The command unit takes the completion step of the in-flight command (30_encoding.md R105), if it waits for no answer of
  the core. -/
  | complete
  /-- The command unit sends its next compression request (R83). -/
  | coreRequest
  /-- The compression core answers the outstanding request (R83). -/
  | coreAnswer
  /-- The compression core answers a request that a reset aborted (70_reset_and_hazards.md R261). -/
  | lateAnswer
  /-- The hardware reset input, one atomic event (R260, R262). -/
  | reset
  deriving DecidableEq, Repr

/-- The state of MDX. Every field down to `core` is named by the spec; the last four are the model's own. -/
structure State where
  /-- LEN, the 64-bit byte count; LEN_LO and LEN_HI are its halves (R42). -/
  len : BitVec 64
  /-- PADLEN (R43). -/
  padlen : Word
  /-- DIGLEN (R44). -/
  diglen : Word
  /-- DATA (R45). -/
  data : Word
  /-- FILL (R46). -/
  fill : Word
  /-- BLKCNT (R48). -/
  blkcnt : Word
  /-- ERRINFO (R49). -/
  errinfo : Word
  /-- STATUS.ERR (R37). -/
  err : Bool
  /-- STATUS.SV (R38). -/
  sv : Bool
  /-- STATUS.PADV (R39). -/
  padv : Bool
  /-- STATUS.ERRCODE (R40). -/
  errcode : BitVec 4
  /-- DIN (R50). -/
  din : Digest
  /-- DOUT (R51). -/
  dout : Digest
  /-- H[0..7] (R33). -/
  h : ChainState
  /-- BLK (R53). -/
  blk : Block
  /-- PAD (R52). -/
  pad : PadBuffer
  /-- The in-flight slot: the long command issued and not yet completed. It is valid exactly when BUSY = 1, so STATUS.BUSY is
  read from it and stored nowhere else (R36, R55). -/
  slot : Option Instr
  /-- The core transaction outstanding on the compression-core port (R56). -/
  core : Option CoreRequest
  /-- The model's own: how many requests of the in-flight command the core has answered (assumption log 4). -/
  answered : Nat
  /-- The model's own: the events to come, first one next (assumption log 3). -/
  events : List Event
  /-- The model's own: the host port's `rdata`, as the latest host read left it (R84; assumption log 5). -/
  rdata : Word
  /-- The model's own: how many unspecified reads have drawn a free value (R279; assumption log 2). -/
  draws : Nat
  deriving DecidableEq, Repr

/-- STATUS.BUSY: a long command is in flight (R36, R55). -/
def State.busy (s : State) : Bool := s.slot.isSome

/-- MDX never stops: every host transaction completes and every error is recorded, not trapped (R84, R230). So the type of
faults has no constructor, and a machine with an outcome `.fault` could not be written. -/
inductive Fault
  deriving DecidableEq, Repr

/-- Why a step could have no meaning. -/
inductive Refusal where
  /-- Raised only by an arm of exec whose command has no meaning yet; safe. No arm does so in this model. -/
  | notModelled (mnemonic : String)
  deriving DecidableEq, Repr

/-- The machine right after reset: every state element at the reset value of R32 and R260, no event pending. The values of
`answered`, `events`, `rdata` and `draws`, the model's own fields, are DESIGN CHOICES (assumption log 3, 4, 5, 2). -/
def State.reset : State where
  len := 0
  padlen := 0
  diglen := 0
  data := 0
  fill := 0
  blkcnt := 0
  errinfo := 0
  err := false
  sv := false
  padv := false
  errcode := 0
  din := Vector.replicate 32 0
  dout := Vector.replicate 32 0
  h := Vector.replicate 8 0
  blk := Vector.replicate 64 0
  pad := Vector.replicate 72 0
  slot := none
  core := none
  answered := 0
  events := []
  rdata := 0
  draws := 0

end Sys2Proof.Machine
end

