-- ==== Sys2Proof/Machine/Operands.lean ====
section
/-! DEFINITION. Byte order and the forms of operands: the conversions of spec 00_scope.md R18, the words of a byte buffer
(20_memory.md R81), the address map of R74 with its access types, and the registers an in-flight command writes
(70_reset_and_hazards.md R279). -/

namespace Sys2Proof.Machine

/-- Byte `j` of `LANES(w)`: the byte in w[8j+7:8j] (R18). -/
def lane (w : Word) (j : Nat) : Byte := w.extractLsb' (8 * j) 8

/-- `LANES(w)`: the four bytes of a host word in lane order (R18). -/
def lanes (w : Word) : List Byte := [lane w 0, lane w 1, lane w 2, lane w 3]

/-- `fromLANES(b0, b1, b2, b3)` (R18). -/
def fromLanes (b0 b1 b2 b3 : Byte) : Word :=
  BitVec.ofNat 32 (b0.toNat + b1.toNat * 0x100 + b2.toNat * 0x10000 + b3.toNat * 0x1000000)

/-- Byte `j` of `BE32(w)`: byte 0 is w[31:24] (R18). -/
def be32Byte (w : Word) (j : Nat) : Byte := w.extractLsb' (24 - 8 * j) 8

/-- `fromBE32(b0, b1, b2, b3)` (R18). -/
def fromBe32 (b0 b1 b2 b3 : Byte) : Word :=
  BitVec.ofNat 32 (b0.toNat * 0x1000000 + b1.toNat * 0x10000 + b2.toNat * 0x100 + b3.toNat)

/-- `BE64(v)`: the eight bytes of a 64-bit value, the most significant first (R18). -/
def be64 (v : BitVec 64) : List Byte :=
  [v.extractLsb' 56 8, v.extractLsb' 48 8, v.extractLsb' 40 8, v.extractLsb' 32 8,
   v.extractLsb' 24 8, v.extractLsb' 16 8, v.extractLsb' 8 8, v.extractLsb' 0 8]

/-- `fromBE64` of a byte sequence, the most significant byte first (R18). -/
def fromBe (bs : List Byte) : Nat := bs.foldl (fun v b => v * 0x100 + b.toNat) 0

/-- Byte `j` of a buffer. Every use is within the buffer; past its end this reads 0x00. -/
def byteAt {n : Nat} (v : Vector Byte n) (j : Nat) : Byte := v[j]?.getD 0

/-- Host word `k` of a buffer: bytes 4k to 4k+3 in lane order (R50 to R53, R81). -/
def bufferWord {n : Nat} (v : Vector Byte n) (k : Nat) : Word :=
  fromLanes (byteAt v (4 * k)) (byteAt v (4 * k + 1)) (byteAt v (4 * k + 2)) (byteAt v (4 * k + 3))

/-- A buffer after a write of `w` to its host word `k`: byte 4k+j becomes `LANES(w)[j]` (R50, R81). -/
def setBufferWord {n : Nat} (v : Vector Byte n) (k : Nat) (w : Word) : Vector Byte n :=
  Vector.ofFn fun j => if j.val / 4 = k then lane w (j.val % 4) else v[j]

/-- Word `i` of the chaining state; every use is below 8. -/
def wordAt (h : ChainState) (i : Nat) : Word := h[i]?.getD 0

/-- The registers of the address map, each window word with its index (R74). -/
inductive Reg where
  | id
  | version
  | cmd
  | status
  | lenLo
  | lenHi
  | padlen
  | diglen
  | data
  | fill
  | blkcnt
  | errinfo
  | din (k : Fin 8)
  | dout (k : Fin 8)
  | h (k : Fin 8)
  | blk (k : Fin 16)
  | pad (k : Fin 18)
  deriving DecidableEq, Repr

/-- Host access types (R32, R74). -/
inductive AccessType where
  | ro
  | wo
  | rw
  deriving DecidableEq, Repr

/-- The access type of each register (R74). -/
def Reg.access : Reg → AccessType
  | .id => .ro
  | .version => .ro
  | .cmd => .wo
  | .status => .ro
  | .lenLo => .rw
  | .lenHi => .rw
  | .padlen => .ro
  | .diglen => .rw
  | .data => .rw
  | .fill => .ro
  | .blkcnt => .ro
  | .errinfo => .ro
  | .din _ => .rw
  | .dout _ => .ro
  | .h _ => .ro
  | .blk _ => .ro
  | .pad _ => .ro

/-- The offset of each register (R74). -/
def Reg.offset : Reg → Offset
  | .id => 0x000
  | .version => 0x004
  | .cmd => 0x008
  | .status => 0x00C
  | .lenLo => 0x010
  | .lenHi => 0x014
  | .padlen => 0x018
  | .diglen => 0x01C
  | .data => 0x020
  | .fill => 0x024
  | .blkcnt => 0x028
  | .errinfo => 0x02C
  | .din k => BitVec.ofNat 9 (0x040 + 4 * k.val)
  | .dout k => BitVec.ofNat 9 (0x060 + 4 * k.val)
  | .h k => BitVec.ofNat 9 (0x080 + 4 * k.val)
  | .blk k => BitVec.ofNat 9 (0x0C0 + 4 * k.val)
  | .pad k => BitVec.ofNat 9 (0x100 + 4 * k.val)

/-- The register at an aligned offset, by the map of R74; none for the reserved offsets 0x030..0x03C, 0x0A0..0x0BC and
0x148..0x1FC (R77). It is asked only about offsets that passed the alignment check. -/
def regAt (off : Offset) : Option Reg :=
  let a := off.toNat
  if a = 0x000 then some .id
  else if a = 0x004 then some .version
  else if a = 0x008 then some .cmd
  else if a = 0x00C then some .status
  else if a = 0x010 then some .lenLo
  else if a = 0x014 then some .lenHi
  else if a = 0x018 then some .padlen
  else if a = 0x01C then some .diglen
  else if a = 0x020 then some .data
  else if a = 0x024 then some .fill
  else if a = 0x028 then some .blkcnt
  else if a = 0x02C then some .errinfo
  else if _ : 0x040 ≤ a ∧ a < 0x060 then some (.din ⟨(a - 0x040) / 4, by omega⟩)
  else if _ : 0x060 ≤ a ∧ a < 0x080 then some (.dout ⟨(a - 0x060) / 4, by omega⟩)
  else if _ : 0x080 ≤ a ∧ a < 0x0A0 then some (.h ⟨(a - 0x080) / 4, by omega⟩)
  else if _ : 0x0C0 ≤ a ∧ a < 0x100 then some (.blk ⟨(a - 0x0C0) / 4, by omega⟩)
  else if _ : 0x100 ≤ a ∧ a < 0x148 then some (.pad ⟨(a - 0x100) / 4, by omega⟩)
  else none

/-- The value ID reads, "MDX1" (R31). -/
def idValue : Word := 0x4D445831

/-- The value VERSION reads, command set 1.0 (R31). -/
def versionValue : Word := 0x00010000

/-- `zext_32(off)`, the info word of a bus error (R49). -/
def zextOffset (off : Offset) : Word := off.setWidth 32

/-- What the platform makes of a bus address: the offset of an address inside the 512 bytes at MDX_BASE, none of another
(R11, R70, R71). -/
def platformOffset (addr : Nat) : Option Offset :=
  if Config.mdxBase ≤ addr ∧ addr < Config.mdxBase + 512 then some (BitVec.ofNat 9 (addr - Config.mdxBase)) else none

/-- A register of the chaining-state and stream group: H, BLK, FILL or BLKCNT. -/
def Reg.isStream : Reg → Bool
  | .h _ => true
  | .blk _ => true
  | .fill => true
  | .blkcnt => true
  | _ => false

/-- The table of R279: the registers whose reads are unspecified while the command is in flight. A short command is never
in flight, and has none. -/
def unspecifiedDuring (i : Instr) (r : Reg) : Bool :=
  match i with
  | .nop => false
  | .softReset => false
  | .clrErr => false
  | .padGen =>
    match r with
    | .padlen => true
    | .pad _ => true
    | _ => false
  | .stDecode => r.isStream
  | .stEncode =>
    match r with
    | .dout _ => true
    | _ => false
  | .seqClear =>
    match r with
    | .blk _ => true
    | .fill => true
    | .blkcnt => true
    | _ => false
  | .seqPush _ => r.isStream
  | .seqFlush => r.isStream
  | .seqPushpad => r.isStream

end Sys2Proof.Machine
end

