-- ==== Sys2Proof/Machine/Flags.lean ====
section
/-! DEFINITION. The STATUS register and the error codes (spec 10_state.md R35 to R41, 60_exceptions.md R231). MDX has no
arithmetic flags: the flags are BUSY, ERR, SV and PADV, and the field ERRCODE. -/

namespace Sys2Proof.Machine

/-- The errors MDX records (R231). Codes 8 to 15 are reserved and never produced. -/
inductive ErrorKind where
  /-- ST_DECODE issued with DIGLEN ≠ 32. -/
  | malformedDigest
  /-- PAD_GEN issued with LEN ≥ 2^61. -/
  | lengthOverflow
  /-- An illegal word written to CMD while BUSY = 0. -/
  | illegalCommand
  /-- A restricted write while BUSY = 1. -/
  | busyViolation
  /-- An access the access checks turn away. -/
  | badAccess
  /-- A command that needs SV = 1, issued with SV = 0. -/
  | noState
  /-- SEQ_PUSHPAD issued with SV = 1 and PADV = 0. -/
  | noPad
  deriving DecidableEq, Repr

/-- `code(E)` (R231). -/
def ErrorKind.code : ErrorKind → BitVec 4
  | .malformedDigest => 1
  | .lengthOverflow => 2
  | .illegalCommand => 3
  | .busyViolation => 4
  | .badAccess => 5
  | .noState => 6
  | .noPad => 7

/-- The STATUS register as the host reads it: bits [31:8] reserved and 0, ERRCODE [7:4], PADV [3], SV [2], ERR [1],
BUSY [0] (R35, R41). -/
def statusWord (s : State) : Word :=
  BitVec.ofNat 32 (s.busy.toNat + s.err.toNat * 2 + s.sv.toNat * 4 + s.padv.toNat * 8 + s.errcode.toNat * 16)

end Sys2Proof.Machine
end

