-- ==== Sys2Proof/Machine/Ops.lean ====
section
/-! DEFINITION. The shared operations: recording an error and clearing it, reset, the steps of a CMD write that all commands
share (spec 30_encoding.md R104), issue and retirement of a long command, the internal procedures of the byte stream
(43_sequencer.md R160 to R162), and reading and writing one register. -/

namespace Sys2Proof.Machine

/-! ### Errors (60_exceptions.md) -/

/-- `raise E(info)`: the error is recorded only if none is recorded (R236). MDX has no trap entry, so this is all that taking
an error does (R230, R242); abandoning the command or access is the caller's. -/
def raise (e : ErrorKind) (info : Word) (s : State) : State :=
  if s.err then s else { s with err := true, errcode := e.code, errinfo := info }

/-- The return from an error, CLR_ERR's effect: the record is cleared and nothing is restored (R192, R243). -/
def clearError (s : State) : State := { s with err := false, errcode := 0, errinfo := 0 }

/-! ### Reset (70_reset_and_hazards.md) -/

/-- `reset()`: every state element takes its reset value, the in-flight slot becomes empty and the core transaction is
abandoned (R260, R261). The events to come, the read data on the host port and the free draws are not state of MDX. -/
def resetAll (s : State) : State :=
  { State.reset with events := s.events, rdata := s.rdata, draws := s.draws }

/-! ### Handling a CMD write (30_encoding.md R104) -/

/-- The second check of R104: while BUSY = 1 a command other than SOFT_RESET raises BUSY_VIOLATION, with the offset of CMD as
its info (R278), and nothing else happens. -/
def whenIdle (act : State → State) (s : State) : State :=
  if s.busy then raise .busyViolation (zextOffset Reg.cmd.offset) s else act s

/-- The lock: while ERR = 1 a long command is dropped, with no error and no effect (R238). -/
def whenUnlocked (act : State → State) (s : State) : State :=
  if s.err then s else act s

/-- The check of SV that ST_ENCODE, SEQ_PUSH, SEQ_FLUSH and SEQ_PUSHPAD make at issue: NO_STATE with the command word (R104). -/
def requireState (i : Instr) (act : State → State) (s : State) : State :=
  if s.sv then act s else raise .noState (encode i) s

/-- `issue(op)`: the command enters the in-flight slot and BUSY becomes 1 (R104). -/
def issue (i : Instr) (s : State) : State := { s with slot := some i }

/-- The end of a completion step: the slot becomes empty and BUSY becomes 0 (R105); no core request outlives the step. -/
def retire (s : State) : State := { s with slot := none, core := none, answered := 0 }

/-! ### The byte stream (43_sequencer.md) -/

/-- `sequencer_clear()` (R160). -/
def sequencerClear (s : State) : State := { s with blk := Vector.replicate 64 0, fill := 0, blkcnt := 0 }

/-- `block_step()`: one compression of the current block; its answer becomes H (R162). -/
def blockStep (s : State) : State :=
  { s with
    h := Config.compress s.h s.blk
    blkcnt := s.blkcnt + 1
    blk := Vector.replicate 64 0
    fill := 0 }

/-- The first two lines of `append_byte(b)`: the byte goes to BLK[FILL] and FILL is incremented (R161). -/
def storeByte (b : Byte) (s : State) : State :=
  { s with blk := s.blk.setIfInBounds s.fill.toNat b, fill := s.fill + 1 }

/-- `append_byte(b)` (R161). -/
def appendByte (b : Byte) (s : State) : State :=
  if (storeByte b s).fill = 64 then blockStep (storeByte b s) else storeByte b s

/-- `append_byte` of each byte of a list, in order (R165, R168). -/
def appendBytes : List Byte → State → State
  | [], s => s
  | b :: bs, s => appendBytes bs (appendByte b s)

/-- The compression-core requests that appending the bytes makes, in stream order: each carries the H and the full block of
that moment (R83, R161, R162). -/
def appendRequests : List Byte → State → List CoreRequest
  | [], _ => []
  | b :: bs, s =>
    if (storeByte b s).fill = 64 then ⟨s.h, (storeByte b s).blk⟩ :: appendRequests bs (appendByte b s)
    else appendRequests bs (appendByte b s)

/-! ### One register (10_state.md, 20_memory.md) -/

/-- The exact value of a register (R31 to R53). CMD stores nothing and reads 0 (R34). -/
def readReg (r : Reg) (s : State) : Word :=
  match r with
  | .id => idValue
  | .version => versionValue
  | .cmd => 0
  | .status => statusWord s
  | .lenLo => s.len.extractLsb' 0 32
  | .lenHi => s.len.extractLsb' 32 32
  | .padlen => s.padlen
  | .diglen => s.diglen
  | .data => s.data
  | .fill => s.fill
  | .blkcnt => s.blkcnt
  | .errinfo => s.errinfo
  | .din k => bufferWord s.din k
  | .dout k => bufferWord s.dout k
  | .h k => wordAt s.h k
  | .blk k => bufferWord s.blk k
  | .pad k => bufferWord s.pad k

/-- The store of a host write to a register of type RW (R42, R44, R45, R50). The other registers store nothing. -/
def writeReg (r : Reg) (w : Word) (s : State) : State :=
  match r with
  | .lenLo => { s with len := s.len.extractLsb' 32 32 ++ w }
  | .lenHi => { s with len := w ++ s.len.extractLsb' 0 32 }
  | .diglen => { s with diglen := w }
  | .data => { s with data := w }
  | .din k => { s with din := setBufferWord s.din k w }
  | .id => s
  | .version => s
  | .cmd => s
  | .status => s
  | .padlen => s
  | .fill => s
  | .blkcnt => s
  | .errinfo => s
  | .dout _ => s
  | .h _ => s
  | .blk _ => s
  | .pad _ => s

end Sys2Proof.Machine
end

