-- ==== Sys2Proof/Machine/Codec.lean ====
section
/-! DEFINITION. The State Codec: the mapping between a digest and the chaining state, ST_DECODE and ST_ENCODE
(spec 42_state_codec.md). -/

namespace Sys2Proof.Machine

/-- decode(d): word i is fromBE32 of bytes 4i to 4i+3 (R141). -/
def decodeState (d : Digest) : ChainState :=
  Vector.ofFn fun i =>
    fromBe32 (byteAt d (4 * i.val)) (byteAt d (4 * i.val + 1)) (byteAt d (4 * i.val + 2)) (byteAt d (4 * i.val + 3))

/-- encode(h): bytes 4i to 4i+3 are BE32 of word i (R141). -/
def encodeState (h : ChainState) : Digest :=
  Vector.ofFn fun j => be32Byte (wordAt h (j.val / 4)) (j.val % 4)

/-- ST_DECODE's CMD write (R104, R142, R143): with DIGLEN ≠ 32 it raises MALFORMED_DIGEST and clears SV; otherwise it is
issued. -/
def execStDecode (s : State) : Host.Outcome State Fault Refusal :=
  .next (whenIdle (whenUnlocked fun s =>
    if s.diglen ≠ 32 then { raise .malformedDigest (encode .stDecode) s with sv := false }
    else issue .stDecode s) s)

/-- ST_DECODE's completion (R142): H is decoded from DIN, SV is set, and the sequencer is cleared. -/
def completeStDecode (s : State) : State :=
  sequencerClear { s with h := decodeState s.din, sv := true }

/-- ST_ENCODE's CMD write (R104, R145): it needs SV = 1. -/
def execStEncode (s : State) : Host.Outcome State Fault Refusal :=
  .next (whenIdle (whenUnlocked (requireState .stEncode (issue .stEncode))) s)

/-- ST_ENCODE's completion (R145): DOUT is H serialised. -/
def completeStEncode (s : State) : State := { s with dout := encodeState s.h }

end Sys2Proof.Machine
end

