-- ==== Sys2Proof/Machine/Control.lean ====
section
/-! DEFINITION. The control commands NOP, SOFT_RESET and CLR_ERR (spec 44_control.md R190 to R192). They are short: the whole
effect is within the CMD write (R103). -/

namespace Sys2Proof.Machine

/-- NOP (R190): no state changes; while BUSY = 1 it raises BUSY_VIOLATION. -/
def execNop (s : State) : Host.Outcome State Fault Refusal := .next (whenIdle id s)

/-- SOFT_RESET (R191): `reset()`, accepted whatever BUSY and ERR are. -/
def execSoftReset (s : State) : Host.Outcome State Fault Refusal := .next (resetAll s)

/-- CLR_ERR (R192): clears ERR, ERRCODE and ERRINFO; it runs while ERR = 1, and while BUSY = 1 it raises BUSY_VIOLATION. -/
def execClrErr (s : State) : Host.Outcome State Fault Refusal := .next (whenIdle clearError s)

end Sys2Proof.Machine
end

