-- ==== Sys2Proof/Machine/Padding.lean ====
section
/-! DEFINITION. The Padding Calculator: the padding function P(n) and PAD_GEN (spec 41_padding.md). -/

namespace Sys2Proof.Machine

/-- z(n), the number of zero bytes of the padding (R121). -/
def zeroCount (n : Nat) : Nat :=
  if (n + 1) % 64 > 56 then (64 - (n + 1) % 64) + 56 else 56 - (n + 1) % 64

/-- P(n) = [0x80] ++ zeros(z(n)) ++ BE64(8n), for a byte length n < 2^61 (R120, R121). DESIGN CHOICE: for n ≥ 2^61, where the spec
gives P no value, the function is total all the same: z(n) as above and the low 64 bits of 8n (assumption log 20). PAD_GEN refuses
such a length (`execPadGen`), so the machine never computes this value in a state that meets `Inv`. -/
def padding (n : Nat) : List Byte :=
  0x80 :: (List.replicate (zeroCount n) 0 ++ be64 (BitVec.ofNat 64 (n * 8)))

/-- 2^61, the first byte length whose bit count does not fit the 8-byte trailer (R120). -/
def lengthLimit : Nat := 0x2000000000000000

/-- PAD_GEN's CMD write (R104, R122, R123): with LEN ≥ 2^61 it raises LENGTH_OVERFLOW and clears PADV; otherwise it is
issued. -/
def execPadGen (s : State) : Host.Outcome State Fault Refusal :=
  .next (whenIdle (whenUnlocked fun s =>
    if lengthLimit ≤ s.len.toNat then { raise .lengthOverflow (encode .padGen) s with padv := false }
    else issue .padGen s) s)

/-- PAD_GEN's completion (R122): PAD is the padding of LEN and then zeros, PADLEN its length, PADV is set. -/
def completePadGen (s : State) : State :=
  let p := padding s.len.toNat
  { s with
    pad := Vector.ofFn fun j => p.getD j.val 0
    padlen := BitVec.ofNat 32 p.length
    padv := true }

end Sys2Proof.Machine
end

