-- ==== Sys2Proof/Machine/Sequencer.lean ====
section
/-! DEFINITION. The Block Sequencer: SEQ_CLEAR, SEQ_PUSH, SEQ_FLUSH and SEQ_PUSHPAD, and the source function `extend` they
implement (spec 43_sequencer.md). -/

namespace Sys2Proof.Machine

/-- Partition i of the data: bytes 64i to 64i+63, the last one zero-padded up to 64 bytes (R163). -/
def partition (data : List Byte) (i : Nat) : Block := Vector.ofFn fun j => data.getD (64 * i + j.val) 0

/-- The fold of the first k partitions, in order: the answer for each becomes the state for the next (R163). -/
def foldBlocks (h : ChainState) (data : List Byte) : Nat → ChainState
  | 0 => h
  | k + 1 => Config.compress (foldBlocks h data k) (partition data k)

/-- extend(h, data), over ceil(len/64) partitions (R163). -/
def extend (h : ChainState) (data : List Byte) : ChainState := foldBlocks h data ((data.length + 63) / 64)

/-- SEQ_CLEAR's CMD write (R104, R164): no check of its own. -/
def execSeqClear (s : State) : Host.Outcome State Fault Refusal :=
  .next (whenIdle (whenUnlocked (issue .seqClear)) s)

/-- SEQ_CLEAR's completion (R164). -/
def completeSeqClear (s : State) : State := sequencerClear s

/-- The bytes SEQ_PUSH n appends: LANES(DATA)[0..n) (R165). -/
def pushedBytes (n : BitVec 3) (s : State) : List Byte := (lanes s.data).take n.toNat

/-- SEQ_PUSH's CMD write (R104, R165): a count outside 1..4 is ILLEGAL_COMMAND, which comes before the lock; then it needs
SV = 1. -/
def execSeqPush (n : BitVec 3) (s : State) : Host.Outcome State Fault Refusal :=
  .next (whenIdle (fun s =>
    if countLegal n then whenUnlocked (requireState (.seqPush n) (issue (.seqPush n))) s
    else raise .illegalCommand (encode (.seqPush n)) s) s)

/-- SEQ_PUSH's completion (R165). -/
def completeSeqPush (n : BitVec 3) (s : State) : State := appendBytes (pushedBytes n s) s

/-- SEQ_FLUSH's CMD write (R104, R166): it needs SV = 1. -/
def execSeqFlush (s : State) : Host.Outcome State Fault Refusal :=
  .next (whenIdle (whenUnlocked (requireState .seqFlush (issue .seqFlush))) s)

/-- SEQ_FLUSH's completion (R166): a partial block is compressed; with FILL = 0 there is no effect. -/
def completeSeqFlush (s : State) : State := if s.fill.toNat > 0 then blockStep s else s

/-- The bytes SEQ_PUSHPAD appends: PAD[0..PADLEN) (R168). -/
def paddingBytes (s : State) : List Byte := s.pad.toList.take s.padlen.toNat

/-- SEQ_PUSHPAD's CMD write (R104, R168): NO_STATE with SV = 0, then NO_PAD with PADV = 0. -/
def execSeqPushpad (s : State) : Host.Outcome State Fault Refusal :=
  .next (whenIdle (whenUnlocked (requireState .seqPushpad fun s =>
    if s.padv then issue .seqPushpad s else raise .noPad (encode .seqPushpad) s)) s)

/-- SEQ_PUSHPAD's completion (R168). -/
def completeSeqPushpad (s : State) : State := appendBytes (paddingBytes s) s

end Sys2Proof.Machine
end

