-- ==== Sys2Proof/Machine/Dispatch.lean ====
section
/-! DEFINITION. exec: the effect of the CMD write of a command (spec 30_encoding.md R104), one arm per command. A short command
has its whole effect here; a long one is checked and issued here, and Machine/Unit.lean holds its completion step (R103). -/

namespace Sys2Proof.Machine

def exec (i : Instr) (s : State) : Host.Outcome State Fault Refusal :=
  match i with
  | .nop => Sys2Proof.Machine.execNop s
  | .softReset => Sys2Proof.Machine.execSoftReset s
  | .clrErr => Sys2Proof.Machine.execClrErr s
  | .padGen => Sys2Proof.Machine.execPadGen s
  | .stDecode => Sys2Proof.Machine.execStDecode s
  | .stEncode => Sys2Proof.Machine.execStEncode s
  | .seqClear => Sys2Proof.Machine.execSeqClear s
  | .seqPush n => Sys2Proof.Machine.execSeqPush n s
  | .seqFlush => Sys2Proof.Machine.execSeqFlush s
  | .seqPushpad => Sys2Proof.Machine.execSeqPushpad s

end Sys2Proof.Machine
end

