-- ==== Sys2Proof/Machine/Unit.lean ====
section
/-! DEFINITION. The command unit and the compression-core port: the completion step of the in-flight command
(spec 30_encoding.md R105), and the requests it makes of the core (10_state.md R56, 20_memory.md R83). -/

namespace Sys2Proof.Machine

/-- The completion pseudocode of each long command, by its defining rule (R105). A short command is never in flight. -/
def completionEffect (i : Instr) (s : State) : State :=
  match i with
  | .nop => s
  | .softReset => s
  | .clrErr => s
  | .padGen => completePadGen s
  | .stDecode => completeStDecode s
  | .stEncode => completeStEncode s
  | .seqClear => completeSeqClear s
  | .seqPush n => completeSeqPush n s
  | .seqFlush => completeSeqFlush s
  | .seqPushpad => completeSeqPushpad s

/-- The completion step: the command in the slot takes its effect, then the slot is empty and BUSY is 0 (R105). It is one
step. The command unit steps only while a command is in flight (R30). -/
def completionStep (s : State) : State :=
  match s.slot with
  | none => s
  | some i => retire (completionEffect i s)

/-- All the compression requests a command makes, in stream order (R56, R165, R166, R168, R281). -/
def coreRequests (i : Instr) (s : State) : List CoreRequest :=
  match i with
  | .nop => []
  | .softReset => []
  | .clrErr => []
  | .padGen => []
  | .stDecode => []
  | .stEncode => []
  | .seqClear => []
  | .seqPush n => appendRequests (pushedBytes n s) s
  | .seqFlush => if s.fill.toNat > 0 then [⟨s.h, s.blk⟩] else []
  | .seqPushpad => appendRequests (paddingBytes s) s

/-- Has the core answered every request of the command in flight? A command that makes none needs no answer. -/
def served (s : State) : Bool :=
  match s.slot with
  | none => true
  | some i => decide ((coreRequests i s).length ≤ s.answered)

/-- The command unit takes the completion step if the core has answered every request of the command; until then it waits, so
without the answers the command never completes and BUSY stays 1 (00_scope.md R16, 70_reset_and_hazards.md R275). -/
def takeCompletion (s : State) : State := if served s then completionStep s else s

/-- The command unit sends the next request of the in-flight command, if none is outstanding and one is left (R56, R83). H
and BLK do not change: the step that changes them is the completion step (R105). -/
def sendRequest (s : State) : State :=
  match s.slot, s.core with
  | some i, none =>
    match (coreRequests i s)[s.answered]? with
    | some r => { s with core := some r }
    | none => s
  | _, _ => s

/-- The core's answer arrives and ends the transaction (R83). Its value is COMPRESS of the request, so it is not stored: the next
request and the completion step compute with it. With no request outstanding the core takes no step (R30). -/
def acceptAnswer (s : State) : State :=
  match s.core with
  | some _ => { s with core := none, answered := s.answered + 1 }
  | none => s

/-- `n` rounds of a request and its answer. -/
def serveCore : Nat → State → State
  | 0, s => s
  | n + 1, s => serveCore n (acceptAnswer (sendRequest s))

/-- The answer to a request that a reset aborted is discarded: it writes nothing and starts nothing, even while a new request
is outstanding (R261). -/
def discardAnswer (s : State) : State := s

end Sys2Proof.Machine
end

