-- ==== Sys2Proof/Machine/Bus.lean ====
section
/-! DEFINITION. The host port: the checks of an access, reads and writes of the register space, the CMD write, and what each
event of the total order does (spec 20_memory.md R71 to R85, 30_encoding.md R104, 70_reset_and_hazards.md R278, R279). -/

namespace Sys2Proof.Machine

/-- Why an access is turned away, or the register it reaches. -/
inductive AccessVerdict where
  /-- size ≠ 4 (R72). -/
  | badSize
  /-- off mod 4 ≠ 0 (R73). -/
  | misaligned
  /-- A reserved offset (R77). -/
  | reservedOffset
  /-- A write to an RO register or a read of CMD (R76, R77). -/
  | wrongType
  /-- The access passes the checks of R72 to R77. -/
  | reaches (r : Reg)
  deriving DecidableEq, Repr

/-- May a register of this type take an access of this kind (R74 to R77)? -/
def typeAllows : AccessType → AccessKind → Bool
  | .ro, .read => true
  | .ro, .write _ => false
  | .wo, .read => false
  | .wo, .write _ => true
  | .rw, .read => true
  | .rw, .write _ => true

/-- The checks in the order of R78: size, alignment, reserved offset, access type. BUSY is checked after them. -/
def checkAccess (t : Transaction) : AccessVerdict :=
  if t.size ≠ .word then .badSize
  else if t.off.toNat % 4 ≠ 0 then .misaligned
  else
    match regAt t.off with
    | none => .reservedOffset
    | some r => if typeAllows r.access t.kind then .reaches r else .wrongType

/-- An access turned away raises BAD_ACCESS with its offset; a read returns 0x00000000 and a write stores nothing (R72, R73,
R76, R77). -/
def badAccess (t : Transaction) (s : State) : State :=
  match t.kind with
  | .read => { raise .badAccess (zextOffset t.off) s with rdata := 0 }
  | .write _ => raise .badAccess (zextOffset t.off) s

/-- Is a read of the register unspecified now (R279)? -/
def readUnspecified (r : Reg) (s : State) : Bool :=
  match s.slot with
  | none => false
  | some i => unspecifiedDuring i r

/-- A read that passed the checks: the exact value, or a free draw (R75, R76, R279). -/
def hostRead (r : Reg) (s : State) : State :=
  if readUnspecified r s then { s with rdata := Config.freeRead s.draws, draws := s.draws + 1 }
  else { s with rdata := readReg r s }

/-- A CMD write that passed the checks (R104): a command word runs its command, and an illegal word raises BUSY_VIOLATION
while BUSY = 1 and ILLEGAL_COMMAND otherwise. -/
def cmdWrite (w : Word) (s : State) : Host.Outcome State Fault Refusal :=
  match decode w with
  | .ok i => exec i s
  | .reject _ => .next (whenIdle (raise .illegalCommand w) s)

/-- A write that passed the checks: CMD presents a command word (R34); an RW register stores the value, or while BUSY = 1 the
write is dropped with BUSY_VIOLATION and its offset (R75, R278). -/
def hostWrite (r : Reg) (w : Word) (s : State) : Host.Outcome State Fault Refusal :=
  match r with
  | .cmd => cmdWrite w s
  | _ => .next (if s.busy then raise .busyViolation (zextOffset r.offset) s else writeReg r w s)

/-- One host transaction. Every one completes (R84). -/
def hostTransaction (t : Transaction) (s : State) : Host.Outcome State Fault Refusal :=
  match checkAccess t with
  | .reaches r =>
    match t.kind with
    | .read => .next (hostRead r s)
    | .write w => hostWrite r w s
  | .badSize => .next (badAccess t s)
  | .misaligned => .next (badAccess t s)
  | .reservedOffset => .next (badAccess t s)
  | .wrongType => .next (badAccess t s)

/-- What one event of the order of R85 does. -/
def handleEvent (e : Event) (s : State) : Host.Outcome State Fault Refusal :=
  match e with
  | .host t => hostTransaction t s
  | .complete => .next (takeCompletion s)
  | .coreRequest => .next (sendRequest s)
  | .coreAnswer => .next (acceptAnswer s)
  | .lateAnswer => .next (discardAnswer s)
  | .reset => .next (resetAll s)

/-- The next event is taken off the list and handled. With none to come, nothing happens: MDX changes only at host
transactions and completion steps (R85). -/
def takeEvent (s : State) : Host.Outcome State Fault Refusal :=
  match s.events with
  | [] => .next s
  | e :: rest => handleEvent e { s with events := rest }

/-- `MemRead(off, 4)` and `MemWrite(off, 4, v)` as the host program writes them (R19, R109). -/
def readWord (off : Offset) : Transaction := ⟨.read, off, .word⟩
def writeWord (off : Offset) (v : Word) : Transaction := ⟨.write v, off, .word⟩

/-- The transaction that presents a command word: a write of CMD (R34). -/
def cmdTransaction (w : Word) : Transaction := writeWord Reg.cmd.offset w

end Sys2Proof.Machine
end

