-- ==== Sys2Proof/Machine/Step.lean ====
section
/-! DEFINITION. One step of MDX: the next event of the order of spec 20_memory.md R85. MDX fetches nothing; its instruction
stream is the host's CMD writes (10_state.md R47). -/

namespace Sys2Proof.Machine

/-- One step. -/
def step (s : State) : Host.Outcome State Fault Refusal := takeEvent s

/-- `s` with a host write of the command word to CMD as its next event, so that the next step runs that command. The word is
the low `nbits` bits of `w` (R34, R108; assumption log 6). -/
def State.withFetchWord (s : State) (nbits w : Nat) : State :=
  { s with events := .host (cmdTransaction (BitVec.ofNat 32 (w % Nat.pow 2 nbits))) :: s.events }

end Sys2Proof.Machine
end

