-- ==== Sys2Proof/Machine/HostProgram.lean ====
section
/-! DEFINITION. The host's side, outside the machine: the notation of host programs and the pseudo-instructions
(spec 30_encoding.md R109, R110), and the forge procedure written in it (45_forge_procedure.md R210 to R212). Nothing in the
machine depends on this file. -/

namespace Sys2Proof.Machine

/-- A host program: register transactions one at a time, each continuing on the value a read returned, and WAIT. Host-side
computation stands in the continuations (R109). It is no part of State: the host's memory is not MDX state (R57). -/
inductive HostProgram (α : Type) where
  /-- The program returns a value. -/
  | done (a : α)
  /-- The program ends at its label fail, with an error code and info (R211). -/
  | fail (code : BitVec 4) (info : Word)
  /-- `R off`. -/
  | read (off : Offset) (k : Word → HostProgram α)
  /-- `W off, v`. -/
  | write (off : Offset) (v : Word) (k : HostProgram α)
  /-- `WAIT`: STATUS is read until BUSY = 0; the continuation gets the last value read (R110). -/
  | wait (k : Word → HostProgram α)

/-- Sequential composition. -/
def HostProgram.bind {α β : Type} (p : HostProgram α) (f : α → HostProgram β) : HostProgram β :=
  match p with
  | .done a => f a
  | .fail code info => .fail code info
  | .read off k => .read off fun v => (k v).bind f
  | .write off v k => .write off v (k.bind f)
  | .wait k => .wait fun v => (k v).bind f

/-- How a run of a host program ended. -/
inductive HostResult (α : Type) where
  | returned (a : α) (s : State)
  | failed (code : BitVec 4) (info : Word) (s : State)
  /-- The machine stopped; this machine never does. -/
  | stopped

/-- One run of a host program, with one schedule of those R105 allows: the core answers the requests, at most two (R56), and the
completion step comes just before the STATUS read that ends a WAIT, as CORE_RESPONDS lets it (R16, R86; assumption log 9). -/
def HostProgram.run {α : Type} : HostProgram α → State → HostResult α
  | .done a, s => .returned a s
  | .fail code info, s => .failed code info s
  | .read off k, s =>
    match hostTransaction (readWord off) s with
    | .next t => (k t.rdata).run t
    | .fault _ => .stopped
    | .refused _ => .stopped
  | .write off v k, s =>
    match hostTransaction (writeWord off v) s with
    | .next t => k.run t
    | .fault _ => .stopped
    | .refused _ => .stopped
  | .wait k, s =>
    match hostTransaction (readWord Reg.status.offset) (takeCompletion (serveCore 2 s)) with
    | .next t => (k t.rdata).run t
    | .fault _ => .stopped
    | .refused _ => .stopped

/-- `R off`, naming the result. -/
def hostR (off : Offset) : HostProgram Word := .read off .done

/-- `W off, v`. -/
def hostW (off : Offset) (v : Word) : HostProgram Unit := .write off v (.done ())

/-- `CMD mnem` (R109). -/
def hostCmd (i : Instr) : HostProgram Unit := hostW Reg.cmd.offset (encode i)

/-- `WAIT` (R110). -/
def hostWait : HostProgram Word := .wait .done

/-- The label `fail` of R211. -/
def hostFail (α : Type) : HostProgram α :=
  .read Reg.status.offset fun s => .read Reg.errinfo.offset fun e => .fail (s.extractLsb' 4 4) e

/-- `CHECK`: to the label fail if STATUS.ERR is 1 (R110). -/
def hostCheck : HostProgram Unit :=
  .read Reg.status.offset fun s => if s.getLsbD 1 then hostFail Unit else .done ()

/-- `CMD mnem; WAIT; CHECK`. -/
def hostCommand (i : Instr) : HostProgram Unit := (hostCmd i).bind fun _ => hostWait.bind fun _ => hostCheck

/-- `SETLEN n` (R110). -/
def hostSetLen (n : Nat) : HostProgram Unit :=
  (hostW Reg.lenLo.offset (BitVec.ofNat 32 n)).bind fun _ => hostW Reg.lenHi.offset (BitVec.ofNat 32 (n / 0x100000000))

/-- The word of bytes 4k to 4k+3 of a byte sequence in lane order, 0x00 past its end. -/
def chunkWord (bs : List Byte) (k : Nat) : Word :=
  fromLanes (bs.getD (4 * k) 0) (bs.getD (4 * k + 1) 0) (bs.getD (4 * k + 2) 0) (bs.getD (4 * k + 3) 0)

/-- The DIN writes of LOADDIG, words k to 7. -/
def hostLoadWords (d : List Byte) : List (Fin 8) → HostProgram Unit
  | [] => .done ()
  | k :: ks => (hostW (Reg.din k).offset (chunkWord d k.val)).bind fun _ => hostLoadWords d ks

/-- The length of d that LOADDIG writes to DIGLEN: the true length (R110). DESIGN CHOICE: of a d of 2^32 bytes or more, whose
length does not fit DIGLEN and of which the spec does not say what is written, it is 0xFFFFFFFF, so that ST_DECODE refuses it as
R213 says of every length but 32 (assumption log 17). -/
def digestLength (d : List Byte) : Word := BitVec.ofNat 32 (min d.length 0xFFFFFFFF)

/-- `LOADDIG d`: the first 32 bytes of d, zero-extended, to DIN, and the length to DIGLEN (R110). -/
def hostLoadDigest (d : List Byte) : HostProgram Unit :=
  (hostLoadWords (d.take 32) (List.finRange 8)).bind fun _ => hostW Reg.diglen.offset (digestLength d)

/-- `PUSH a`: chunks of up to 4 bytes through DATA and SEQ_PUSH, each with its WAIT (R110). -/
def hostPush : List Byte → HostProgram Unit
  | b0 :: b1 :: b2 :: b3 :: rest =>
    (hostW Reg.data.offset (fromLanes b0 b1 b2 b3)).bind fun _ =>
      (hostCmd (.seqPush 4)).bind fun _ => hostWait.bind fun _ => hostPush rest
  | [] => .done ()
  | last =>
    (hostW Reg.data.offset (chunkWord last 0)).bind fun _ =>
      (hostCmd (.seqPush (BitVec.ofNat 3 last.length))).bind fun _ => hostWait.bind fun _ => .done ()

/-- The reads of READBUF from `base`: `count` words, as bytes in lane order (R110). DESIGN CHOICE: a read beyond offset 0x1FF, which
R71 does not give MemRead and of which R110 does not speak, is made at the offset modulo 512 (assumption log 19). -/
def hostReadWords (base : Nat) : Nat → HostProgram (List Byte)
  | 0 => .done []
  | count + 1 =>
    .read (BitVec.ofNat 9 base) fun v => (hostReadWords (base + 4) count).bind fun rest => .done (lanes v ++ rest)

/-- `READBUF base, n` (R110). Past offset 0x1FF its reads wrap (`hostReadWords`, assumption log 19). -/
def hostReadBuffer (base : Offset) (n : Nat) : HostProgram (List Byte) :=
  (hostReadWords base.toNat ((n + 3) / 4)).bind fun bs => .done (bs.take n)

/-- `FORGE(M, mac, A, L)`, steps F1 to F12: the forged message and the forged digest, or the first error (R211). -/
def forge (m mac a : List Byte) (l : Nat) : HostProgram (List Byte × List Byte) :=
  (hostLoadDigest mac).bind fun _ =>
  (hostCommand .stDecode).bind fun _ =>
  (hostSetLen (l + m.length)).bind fun _ =>
  (hostCommand .padGen).bind fun _ =>
  (hostR Reg.padlen.offset).bind fun g =>
  (hostReadBuffer (Reg.pad 0).offset g.toNat).bind fun glue =>
  (hostSetLen (l + m.length + g.toNat + a.length)).bind fun _ =>
  (hostCommand .padGen).bind fun _ =>
  (hostPush a).bind fun _ =>
  (hostCommand .seqPushpad).bind fun _ =>
  (hostCmd .seqFlush).bind fun _ =>
  hostWait.bind fun _ =>
  (hostCommand .stEncode).bind fun _ =>
  (hostReadBuffer (Reg.dout 0).offset 32).bind fun fd =>
  .done (m ++ glue ++ a, fd)

/-- RO, the resume offset of R212: L + len(M) + len(glue). For L + len(M) of 2^61 or more see `padding` (assumption log 20). -/
def resumeOffset (m : List Byte) (l : Nat) : Nat := l + m.length + (padding (l + m.length)).length

/-- FM of R212: M ++ glue ++ A. -/
def forgedMessage (m a : List Byte) (l : Nat) : List Byte := m ++ padding (l + m.length) ++ a

/-- FD of R212: encode(extend(decode(mac), A ++ P(RO + len(A)))). -/
def forgedDigest (m : List Byte) (mac : Digest) (a : List Byte) (l : Nat) : Digest :=
  encodeState (extend (decodeState mac) (a ++ padding (resumeOffset m l + a.length)))

/-- The Merkle–Damgård hash made of COMPRESS, an initial state and the padding P (R214). -/
def merkleDamgard (iv : ChainState) (msg : List Byte) : Digest :=
  encodeState (extend iv (msg ++ padding msg.length))

end Sys2Proof.Machine
end

