-- ==== Sys2Proof/Safety.lean ====
section
/-! DEFINITION. The terms that claims are stated in: legal command words, the invariant of the state, a host that keeps its
duties, a stream that has been absorbed, and the fairness hypothesis on the compression core (spec 30_encoding.md R102,
10_state.md R54, 45_forge_procedure.md R219, 43_sequencer.md R169, 00_scope.md R16). -/

namespace Sys2Proof.Machine

/-- A legal command word, in the words of R102, without the decoder. -/
def LegalWord (w : Word) : Prop :=
  (w.extractLsb' 0 8 ∈ ([0x00, 0x01, 0x02, 0x10, 0x20, 0x21, 0x30, 0x32, 0x33] : List (BitVec 8)) ∧
      w.extractLsb' 8 24 = 0) ∨
    (w.extractLsb' 0 8 = 0x31 ∧ w.extractLsb' 11 21 = 0 ∧ w.extractLsb' 8 3 ∈ ([1, 2, 3, 4] : List (BitVec 3)))

/-- PAD and PADLEN hold the padding of the length n: its bytes, and 0x00 after them (R39, R52). -/
def HoldsPadding (n : Nat) (s : State) : Prop :=
  s.padlen.toNat = (padding n).length ∧ ∀ j : Fin 72, s.pad[j] = (padding n).getD j.val 0

/-- The checks that a long command passed at issue still hold of its operands (R55, R104). -/
def IssueChecksHold (i : Instr) (s : State) : Prop :=
  match i with
  | .nop => False
  | .softReset => False
  | .clrErr => False
  | .padGen => s.len.toNat < lengthLimit
  | .stDecode => s.diglen = 32
  | .stEncode => s.sv = true
  | .seqClear => True
  | .seqPush n => s.sv = true ∧ countLegal n = true
  | .seqFlush => s.sv = true
  | .seqPushpad => s.sv = true ∧ s.padv = true

/-- The invariant: R54 (a) to (e), the ranges of PADLEN and FILL in R41 and R43, and what R55 and R56 say of the hidden
state. In this model it holds while BUSY = 1 too, because a command's effects come in one step (R105). -/
structure Inv (s : State) : Prop where
  /-- R54 (a): FILL is in 0..63. -/
  fill_lt : s.fill.toNat < 64
  /-- R54 (b): BLK[j] = 0 for every j ≥ FILL. -/
  blk_zero : ∀ j : Fin 64, s.fill.toNat ≤ j.val → s.blk[j] = 0
  /-- R43: PADLEN is 0 or in 9..72. -/
  padlen_range : s.padlen.toNat = 0 ∨ (9 ≤ s.padlen.toNat ∧ s.padlen.toNat ≤ 72)
  /-- R39, R54 (c): PADV = 1 implies that PAD and PADLEN hold the padding of an accepted length. -/
  pad_valid : s.padv = true → ∃ n, n < lengthLimit ∧ HoldsPadding n s
  /-- R54 (d): ERR = 0 implies ERRCODE = 0 and ERRINFO = 0. -/
  err_clear : s.err = false → s.errcode = 0 ∧ s.errinfo = 0
  /-- R54 (e): ERR = 1 implies ERRCODE is in 1..7. -/
  err_code : s.err = true → 1 ≤ s.errcode.toNat ∧ s.errcode.toNat ≤ 7
  /-- R55: the slot holds a long command whose operands have not changed since its checks. -/
  slot_checked : ∀ i, s.slot = some i → IssueChecksHold i s
  /-- R56: with no command in flight no request is outstanding. -/
  core_idle : s.slot = none → s.core = none ∧ s.answered = 0
  /-- R56: no more requests are answered than the in-flight command makes. -/
  answered_le : ∀ i, s.slot = some i → s.answered ≤ (coreRequests i s).length
  /-- R56, R83: the outstanding request is the next one of the in-flight command. -/
  core_next : ∀ i r, s.slot = some i → s.core = some r → (coreRequests i s)[s.answered]? = some r

/-- The host writes SOFT_RESET: the word 0x00000001 to CMD (R191). -/
def Event.isSoftReset (e : Event) : Prop := e = .host (cmdTransaction 0x00000001)

/-- Either reset (R260). -/
def Event.isReset (e : Event) : Prop := e = .reset ∨ e.isSoftReset

/-- A transaction of a host that keeps the duties of R219 that bear on one transaction in the state s: an aligned 4-byte access,
no write but SOFT_RESET while BUSY = 1, and no read of a result of the command in flight. Two clauses are additions of the
model's, which R219 does not list: the access is one that the address map of R74 allows, and a word written to CMD is legal
(assumption log 18). -/
def Dutiful (t : Transaction) (s : State) : Prop :=
  ∃ r : Reg, t.off = r.offset ∧ t.size = .word ∧
    match t.kind with
    | .read => r ≠ .cmd ∧ readUnspecified r s = false
    | .write w =>
      (r = .cmd ∧ (w = 0x00000001 ∨ (s.busy = false ∧ LegalWord w))) ∨ (r.access = .rw ∧ s.busy = false)

/-- The bytes d have been appended since the sequencer was last cleared with H = h0: whole blocks are folded into H, the rest
is in BLK, and BLKCNT counts the blocks (R163, R169). -/
structure Absorbed (h0 : ChainState) (d : List Byte) (s : State) : Prop where
  h_eq : s.h = foldBlocks h0 d (d.length / 64)
  fill_eq : s.fill.toNat = d.length % 64
  blk_eq : s.blk = partition (d.drop (64 * (d.length / 64))) 0
  blkcnt_eq : s.blkcnt = BitVec.ofNat 32 (d.length / 64)

/-- A run of the machine: each state is the step of the one before. -/
def IsRun (run : Nat → State) : Prop := ∀ k, step (run k) = .next (run (k + 1))

/-- The event that the step from `run k` takes. -/
def nextEvent (run : Nat → State) (k : Nat) : Option Event := (run k).events.head?

/-- A reset comes at `k`. -/
def ResetAt (run : Nat → State) (k : Nat) : Prop := ∃ e, nextEvent run k = some e ∧ e.isReset

/-- A reset comes at `k` while a request is outstanding, and aborts it (R261). -/
def AbortAt (run : Nat → State) (k : Nat) : Prop := ResetAt run k ∧ (run k).core ≠ none

/-- CORE_RESPONDS, the fairness hypothesis of R16: the compression core answers every request after finite time. It says nothing
of commands that make no request. It is assumed where a claim needs it, and is no step of the machine. -/
structure CoreResponds (run : Nat → State) : Prop where
  /-- An outstanding request stays outstanding until the core answers it, or until a reset aborts it. -/
  answers : ∀ k, (run k).core ≠ none → ∃ m, k ≤ m ∧ (nextEvent run m = some .coreAnswer ∨ AbortAt run m) ∧
    ∀ j, k ≤ j → j ≤ m → (run j).core ≠ none
  /-- The core answers every aborted request too, each with a late answer of its own (R261). -/
  late : ∃ answer : Nat → Nat, (∀ m, AbortAt run m → m < answer m ∧ nextEvent run (answer m) = some .lateAnswer) ∧
    ∀ m n, AbortAt run m → AbortAt run n → answer m = answer n → m = n

/-- The command unit goes on: while a command is in flight and no request is outstanding it at some point completes the command,
or sends the next request where one is left, unless a reset comes (R105; R12: the latency is finite whenever the core
answers). -/
def UnitGoesOn (run : Nat → State) : Prop :=
  ∀ k, (run k).slot ≠ none → (run k).core = none → ∃ m, k ≤ m ∧
    ((nextEvent run m = some .complete ∧ served (run m) = true) ∨
      (nextEvent run m = some .coreRequest ∧ served (run m) = false ∧ (run m).core = none) ∨ ResetAt run m)

end Sys2Proof.Machine
end

