-- ==== Sys2Proof/Certificates/Slice0/Obligations.lean ====
section
/-! DEFINITION. The statements for the provers. Each docstring names the rule of the spec it formalises; "(model)" marks a
clause about a field of the model's own: events, answered, rdata and draws (assumption log 3, 4, 5, 2). -/

open Sys2Proof Sys2Proof.Machine

/-! ### Encoding -/

/-- R101, R102, R106: decoding the word of a well-formed command gives the command back, and a word that decodes is the
word of a well-formed command, so no bit is dropped and no two words share a command. -/
def Obligations.DecodeAndEncodeAgree : Prop :=
  (∀ i : Instr, i.wf = true → decode (encode i) = .ok i) ∧
    ∀ (w : Word) (i : Instr), decode w = .ok i → i.wf = true ∧ encode i = w

/-- R102: the decoder accepts exactly the legal words, and an illegal word written to CMD while BUSY = 0 raises
ILLEGAL_COMMAND with the word and has no other effect. -/
def Obligations.ExactlyTheLegalWordsDecode : Prop :=
  (∀ w : Word, (∃ i, decode w = .ok i) ↔ LegalWord w) ∧
    ∀ (w : Word) (s : State), ¬ LegalWord w → s.slot = none →
      hostTransaction (cmdTransaction w) s = .next (raise .illegalCommand w s)

/-- R101: words written out from the opcode map decode to their commands. -/
def Obligations.WrittenOutWordsDecode : Prop :=
  decode 0x00000000 = .ok .nop ∧ decode 0x00000001 = .ok .softReset ∧ decode 0x00000002 = .ok .clrErr ∧
  decode 0x00000010 = .ok .padGen ∧ decode 0x00000020 = .ok .stDecode ∧ decode 0x00000021 = .ok .stEncode ∧
  decode 0x00000030 = .ok .seqClear ∧ decode 0x00000131 = .ok (.seqPush 1) ∧ decode 0x00000431 = .ok (.seqPush 4) ∧
  decode 0x00000032 = .ok .seqFlush ∧ decode 0x00000033 = .ok .seqPushpad

/-! ### Steps -/

/-- R34, R104: when the next event is a host write of a command's word to CMD, the step is exec of that command. (model) That
the events stand in a list of the state, and that exec runs on the state with the event taken off it, is assumption log 3, a
DESIGN CHOICE. -/
def Obligations.StepRunsTheDecodedCommand : Prop :=
  ∀ (s : State) (w : Word) (i : Instr) (rest : List Event),
    decode w = .ok i → s.events = .host (cmdTransaction w) :: rest → step s = exec i { s with events := rest }

/-- R85, R105, R260: a step takes the next event and handles it: the completion step retires the command in the slot once every
request of it is answered, and before that, or with an empty slot, it does nothing; the hardware reset resets. (model) The
events stand in a list, and with none to come nothing happens (assumption log 3); the answers are counted (assumption log
4). -/
def Obligations.StepTakesTheNextEvent : Prop :=
  ∀ (s : State) (rest : List Event),
    (s.events = [] → step s = .next s) ∧
    (∀ e, s.events = e :: rest → step s = handleEvent e { s with events := rest }) ∧
    (∀ i, s.events = .complete :: rest → s.slot = some i → (coreRequests i s).length ≤ s.answered →
      step s = .next (retire (completionEffect i { s with events := rest }))) ∧
    (∀ i, s.events = .complete :: rest → s.slot = some i → s.answered < (coreRequests i s).length →
      step s = .next { s with events := rest }) ∧
    (s.events = .complete :: rest → s.slot = none → step s = .next { s with events := rest }) ∧
    (s.events = .reset :: rest → step s = .next { State.reset with events := rest, rdata := s.rdata, draws := s.draws })

/-- R84, R230: every transaction and every event completes: MDX never traps and never stops. -/
def Obligations.EveryStepGivesANextState : Prop := ∀ s : State, ∃ t, step s = .next t

/-! ### Reset -/

/-- R260: SOFT_RESET and the hardware reset input have the same effect: every state element takes its reset value, whatever
the state was, and ID and VERSION are unaffected. -/
def Obligations.BothResetsGiveTheResetState : Prop :=
  ∀ s : State, ∃ t : State,
    exec .softReset s = .next t ∧ handleEvent .reset s = .next t ∧
    t.len = 0 ∧ t.padlen = 0 ∧ t.diglen = 0 ∧ t.data = 0 ∧ t.fill = 0 ∧ t.blkcnt = 0 ∧ t.errinfo = 0 ∧
    statusWord t = 0x00000000 ∧
    (∀ i : Fin 8, t.h[i] = 0) ∧ (∀ j : Fin 32, t.din[j] = 0 ∧ t.dout[j] = 0) ∧ (∀ j : Fin 64, t.blk[j] = 0) ∧
    (∀ j : Fin 72, t.pad[j] = 0) ∧ t.slot = none ∧ t.core = none ∧
    readReg .id t = 0x4D445831 ∧ readReg .version t = 0x00010000

/-- R263, R32: the state after reset is that same state. -/
def Obligations.ResetStateIsZero : Prop :=
  resetAll State.reset = State.reset ∧ statusWord State.reset = 0 ∧
    ∀ r : Reg, r ≠ .id → r ≠ .version → readReg r State.reset = 0

/-! ### The control commands -/

/-- R190: NOP executes whatever ERR is and changes nothing, and while BUSY = 1 raises BUSY_VIOLATION; a word with OP = 0x00 and
a nonzero bit in [31:8] is ILLEGAL_COMMAND. -/
def Obligations.NopChangesNothing : Prop :=
  (∀ s : State, s.slot = none → exec .nop s = .next s) ∧
  (∀ s : State, s.slot ≠ none → exec .nop s = .next (raise .busyViolation 0x00000008 s)) ∧
  encode .nop = 0x00000000 ∧
  ∀ (w : Word) (s : State), w.extractLsb' 0 8 = 0 → w.extractLsb' 8 24 ≠ 0 → s.slot = none →
    hostTransaction (cmdTransaction w) s = .next (raise .illegalCommand w s)

/-- R192: CLR_ERR clears ERR, ERRCODE and ERRINFO and nothing else, whatever ERR is, so with ERR = 0 it has no effect in a
state that meets the invariant; while BUSY = 1 it raises BUSY_VIOLATION, recorded only if ERR = 0. -/
def Obligations.ClrErrClearsTheRecord : Prop :=
  (∀ s : State, s.slot = none → exec .clrErr s = .next { s with err := false, errcode := 0, errinfo := 0 }) ∧
  (∀ s : State, s.slot ≠ none → s.err = false →
    exec .clrErr s = .next { s with err := true, errcode := 4, errinfo := 0x00000008 }) ∧
  (∀ s : State, s.slot ≠ none → s.err = true → exec .clrErr s = .next s) ∧
  (∀ s : State, Inv s → s.slot = none → s.err = false → exec .clrErr s = .next s) ∧
  encode .clrErr = 0x00000002

/-! ### The long commands: issue, and then completion -/

/-- R104, R105, R122: with LEN < 2^61 PAD_GEN is issued, and its completion step writes the padding of LEN to PAD, zeros after
it, its length to PADLEN, and sets PADV; nothing else changes. -/
def Obligations.PadGenComputesThePadding : Prop :=
  ∀ s : State, s.slot = none → s.err = false → s.len.toNat < 2 ^ 61 →
    exec .padGen s = .next { s with slot := some .padGen } ∧
    ∃ pad : PadBuffer, (∀ j : Fin 72, pad[j] = (padding s.len.toNat).getD j.val 0) ∧
      completionStep { s with slot := some .padGen } =
        { s with pad := pad, padlen := BitVec.ofNat 32 (padding s.len.toNat).length, padv := true,
                 core := none, answered := 0 }

/-- R104, R105, R142: with DIGLEN = 32 ST_DECODE is issued, and its completion step decodes DIN into H, sets SV and clears the
sequencer; nothing else changes. -/
def Obligations.StDecodeLoadsTheState : Prop :=
  ∀ s : State, s.slot = none → s.err = false → s.diglen = 32 →
    exec .stDecode s = .next { s with slot := some .stDecode } ∧
    ∃ h : ChainState, (∀ i : Fin 8, h[i] = fromBe32 (byteAt s.din (4 * i.val)) (byteAt s.din (4 * i.val + 1))
          (byteAt s.din (4 * i.val + 2)) (byteAt s.din (4 * i.val + 3))) ∧
      completionStep { s with slot := some .stDecode } =
        { s with h := h, sv := true, blk := Vector.replicate 64 0, fill := 0, blkcnt := 0, core := none, answered := 0 }

/-- R104, R105, R145: with SV = 1 ST_ENCODE is issued, and its completion step writes BE32 of each word of H to DOUT; nothing
else changes, whatever FILL is. -/
def Obligations.StEncodeSerialisesTheState : Prop :=
  ∀ s : State, s.slot = none → s.err = false → s.sv = true →
    exec .stEncode s = .next { s with slot := some .stEncode } ∧
    ∃ dout : Digest, (∀ i : Fin 8, ∀ j : Fin 4, byteAt dout (4 * i.val + j.val) = s.h[i].extractLsb' (24 - 8 * j.val) 8) ∧
      completionStep { s with slot := some .stEncode } = { s with dout := dout, core := none, answered := 0 }

/-- R104, R105, R160, R164: SEQ_CLEAR is issued whatever SV is, and its completion step clears BLK, FILL and BLKCNT; H, SV and
everything else stay. -/
def Obligations.SeqClearDiscardsTheStream : Prop :=
  ∀ s : State, s.slot = none → s.err = false →
    exec .seqClear s = .next { s with slot := some .seqClear } ∧
    completionStep { s with slot := some .seqClear } =
      { s with blk := Vector.replicate 64 0, fill := 0, blkcnt := 0, core := none, answered := 0 }

/-- R104, R105, R165: with SV = 1 and n in 1..4 SEQ_PUSH n is issued, and its completion step appends the first n lanes of DATA
in order. -/
def Obligations.SeqPushAppendsDataLanes : Prop :=
  ∀ (s : State) (n : BitVec 3), s.slot = none → s.err = false → s.sv = true → 1 ≤ n.toNat → n.toNat ≤ 4 →
    exec (.seqPush n) s = .next { s with slot := some (.seqPush n) } ∧
    completionStep { s with slot := some (.seqPush n) } =
      retire (appendBytes
        ((List.range n.toNat).map fun j => s.data.extractLsb' (8 * j) 8) s)

/-- R104, R105, R166: with SV = 1 SEQ_FLUSH is issued, and its completion step compresses a partial block and has no effect
with FILL = 0. -/
def Obligations.SeqFlushCompressesAPartialBlock : Prop :=
  ∀ s : State, s.slot = none → s.err = false → s.sv = true →
    exec .seqFlush s = .next { s with slot := some .seqFlush } ∧
    (s.fill = 0 → completionStep { s with slot := some .seqFlush } = { s with core := none, answered := 0 }) ∧
    (s.fill ≠ 0 → completionStep { s with slot := some .seqFlush } =
      { s with h := Config.compress s.h s.blk, blkcnt := s.blkcnt + 1, blk := Vector.replicate 64 0, fill := 0,
               core := none, answered := 0 })

/-- R104, R105, R168: with SV = 1 and PADV = 1 SEQ_PUSHPAD is issued, and its completion step appends PAD[0..PADLEN) in order;
PADV stays 1. PADLEN is at most 72 in every reachable state (Inv). -/
def Obligations.SeqPushpadAppendsThePadding : Prop :=
  ∀ s : State, s.slot = none → s.err = false → s.sv = true → s.padv = true → s.padlen.toNat ≤ 72 →
    exec .seqPushpad s = .next { s with slot := some .seqPushpad } ∧
    completionStep { s with slot := some .seqPushpad } =
      retire (appendBytes ((List.range s.padlen.toNat).map fun j => byteAt s.pad j) s)

/-- R161, R162: one appended byte, below and at the end of a block: it is stored at BLK[FILL]; the 64th makes one compression,
after which H is COMPRESS's answer, BLKCNT is one more modulo 2^32, BLK is zero and FILL is 0. -/
def Obligations.AppendedByteFillsOrCompresses : Prop :=
  ∀ (s : State) (b : Byte) (lt : s.fill.toNat < 64),
    (s.fill.toNat < 63 → appendByte b s = { s with blk := s.blk.set s.fill.toNat b, fill := s.fill + 1 }) ∧
    (s.fill.toNat = 63 → appendByte b s =
      { s with h := Config.compress s.h (s.blk.set s.fill.toNat b), blkcnt := BitVec.ofNat 32 ((s.blkcnt.toNat + 1) % 2 ^ 32),
               blk := Vector.replicate 64 0, fill := 0 })

/-! ### Checks at issue -/

/-- R143: ST_DECODE with DIGLEN ≠ 32 raises MALFORMED_DIGEST with its word, clears SV and writes nothing else; BUSY stays
0. -/
def Obligations.MalformedDigestClearsSv : Prop :=
  ∀ s : State, s.slot = none → s.err = false → s.diglen ≠ 32 →
    exec .stDecode s = .next { s with err := true, errcode := 1, errinfo := 0x00000020, sv := false }

/-- R123: PAD_GEN with LEN ≥ 2^61, that is LEN_HI[31:29] ≠ 0, raises LENGTH_OVERFLOW with its word, clears PADV and writes
nothing else; BUSY stays 0. -/
def Obligations.LengthOverflowClearsPadv : Prop :=
  ∀ s : State, (2 ^ 61 ≤ s.len.toNat ↔ (readReg .lenHi s).extractLsb' 29 3 ≠ 0) ∧
    (s.slot = none → s.err = false → 2 ^ 61 ≤ s.len.toNat →
      exec .padGen s = .next { s with err := true, errcode := 2, errinfo := 0x00000010, padv := false })

/-- R38, R39, R104, R239: ST_ENCODE, SEQ_PUSH, SEQ_FLUSH and SEQ_PUSHPAD with SV = 0 raise NO_STATE with their word, and
SEQ_PUSHPAD with SV = 1 and PADV = 0 raises NO_PAD; nothing else changes. -/
def Obligations.NoStateThenNoPad : Prop :=
  ∀ s : State, s.slot = none → s.err = false →
    (s.sv = false → ∀ i : Instr, i = .stEncode ∨ (∃ n, countLegal n = true ∧ i = .seqPush n) ∨ i = .seqFlush ∨ i = .seqPushpad →
      exec i s = .next { s with err := true, errcode := 6, errinfo := encode i }) ∧
    (s.sv = true → s.padv = false →
      exec .seqPushpad s = .next { s with err := true, errcode := 7, errinfo := 0x00000033 })

/-- R102, R104, R107: the CMD write of a SEQ_PUSH word with a count outside 1..4 is ILLEGAL_COMMAND, before the lock and before
the check of SV, and the word does not decode. (model) exec, which the decoder never gives such a command, answers the same
(assumption log 15). -/
def Obligations.IllegalCountIsRejected : Prop :=
  ∀ (s : State) (n : BitVec 3), s.slot = none → n = 0 ∨ n = 5 ∨ n = 6 ∨ n = 7 →
    hostTransaction (cmdTransaction (encode (.seqPush n))) s = .next (raise .illegalCommand (encode (.seqPush n)) s) ∧
    encode (.seqPush n) = 0x00000031 + n.setWidth 32 * 0x100 ∧
    exec (.seqPush n) s = .next (raise .illegalCommand (encode (.seqPush n)) s) ∧ ∃ why, decode (encode (.seqPush n)) = .reject why

/-- R238: while ERR = 1 and BUSY = 0 every legal long command is dropped and changes nothing; NOP, CLR_ERR and SOFT_RESET still
execute, writes of the RW registers still store, and every read still works. -/
def Obligations.LockDropsLongCommands : Prop :=
  ∀ s : State, s.slot = none → s.err = true →
    (∀ i : Instr, i.wf = true → i.isLong = true → exec i s = .next s) ∧
    exec .nop s = .next s ∧ exec .clrErr s = .next { s with err := false, errcode := 0, errinfo := 0 } ∧
    exec .softReset s = .next (resetAll s) ∧
    (∀ (r : Reg) (w : Word), r.access = .rw → hostTransaction (writeWord r.offset w) s = .next (writeReg r w s)) ∧
    (∀ r : Reg, r ≠ .cmd → hostTransaction (readWord r.offset) s = .next { s with rdata := readReg r s })

/-- R231, R236: the first error is recorded with its code and info; while ERR = 1 no error is recorded. The codes are 1 to 7. -/
def Obligations.FirstErrorIsKept : Prop :=
  ∀ (s : State) (e : ErrorKind) (info : Word),
    (s.err = true → raise e info s = s) ∧
    (s.err = false → raise e info s = { s with err := true, errcode := e.code, errinfo := info }) ∧
    e.code = (match e with
      | .malformedDigest => 1
      | .lengthOverflow => 2
      | .illegalCommand => 3
      | .busyViolation => 4
      | .badAccess => 5
      | .noState => 6
      | .noPad => 7)

/-! ### The host port -/

/-- R72, R73, R76, R77: an access of a size other than 4, a misaligned one, one of a reserved offset, a write of a read-only
register and a read of CMD raise BAD_ACCESS with the offset; a read returns 0 and a write stores nothing. The offsets are
written out from the map of R74. -/
def Obligations.BadAccessesAreAbandoned : Prop :=
  ∀ (s : State) (t : Transaction),
    let a := t.off.toNat
    (t.size ≠ .word ∨ a % 4 ≠ 0 ∨ (0x030 ≤ a ∧ a < 0x040) ∨ (0x0A0 ≤ a ∧ a < 0x0C0) ∨ 0x148 ≤ a ∨
      (t.kind = .read ∧ a = 0x008) ∨
      (t.kind ≠ .read ∧ (a ∈ ([0x000, 0x004, 0x00C, 0x018, 0x024, 0x028, 0x02C] : List Nat) ∨
        (0x060 ≤ a ∧ a < 0x0A0) ∨ (0x0C0 ≤ a ∧ a < 0x148)))) →
    (t.kind = .read → hostTransaction t s = .next { raise .badAccess (BitVec.ofNat 32 a) s with rdata := 0 }) ∧
    (t.kind ≠ .read → hostTransaction t s = .next (raise .badAccess (BitVec.ofNat 32 a) s))

/-- R74: the address map, written out: the offset of each register and its access type, and the reserved offsets. It is one to
one: each register is reached at its offset, and an aligned offset reaches no other. -/
def Obligations.AddressMapIsOneToOne : Prop :=
  (∀ r : Reg, r.offset.toNat % 4 = 0 ∧ regAt r.offset = some r) ∧
    (∀ (off : Offset) (r : Reg), off.toNat % 4 = 0 → regAt off = some r → off = r.offset) ∧
    (Reg.offset .id = 0x000 ∧ Reg.offset .version = 0x004 ∧ Reg.offset .cmd = 0x008 ∧ Reg.offset .status = 0x00C ∧
      Reg.offset .lenLo = 0x010 ∧ Reg.offset .lenHi = 0x014 ∧ Reg.offset .padlen = 0x018 ∧ Reg.offset .diglen = 0x01C ∧
      Reg.offset .data = 0x020 ∧ Reg.offset .fill = 0x024 ∧ Reg.offset .blkcnt = 0x028 ∧ Reg.offset .errinfo = 0x02C) ∧
    (∀ k : Fin 8, (Reg.offset (.din k)).toNat = 0x040 + 4 * k.val ∧ (Reg.offset (.dout k)).toNat = 0x060 + 4 * k.val ∧
      (Reg.offset (.h k)).toNat = 0x080 + 4 * k.val) ∧
    (∀ k : Fin 16, (Reg.offset (.blk k)).toNat = 0x0C0 + 4 * k.val) ∧
    (∀ k : Fin 18, (Reg.offset (.pad k)).toNat = 0x100 + 4 * k.val) ∧
    (∀ off : Offset, off.toNat % 4 = 0 → (regAt off = none ↔
      (0x030 ≤ off.toNat ∧ off.toNat < 0x040) ∨ (0x0A0 ≤ off.toNat ∧ off.toNat < 0x0C0) ∨ 0x148 ≤ off.toNat)) ∧
    ∀ r : Reg, (r.access = .wo ↔ r = .cmd) ∧
      (r.access = .rw ↔ r = .lenLo ∨ r = .lenHi ∨ r = .diglen ∨ r = .data ∨ ∃ k, r = .din k)

/-- R42, R44, R45, R50, R75: what an aligned 4-byte write to each RW register stores while BUSY = 0; nothing else changes, so
each half of LEN is written alone. -/
def Obligations.RwWritesStoreTheirValue : Prop :=
  ∀ (s : State) (w : Word), s.slot = none →
    hostTransaction (writeWord 0x010 w) s = .next { s with len := BitVec.ofNat 64 (s.len.toNat / 2 ^ 32 * 2 ^ 32 + w.toNat) } ∧
    hostTransaction (writeWord 0x014 w) s = .next { s with len := BitVec.ofNat 64 (w.toNat * 2 ^ 32 + s.len.toNat % 2 ^ 32) } ∧
    hostTransaction (writeWord 0x01C w) s = .next { s with diglen := w } ∧
    hostTransaction (writeWord 0x020 w) s = .next { s with data := w } ∧
    ∀ k : Fin 8, ∃ din : Digest, hostTransaction (writeWord (BitVec.ofNat 9 (0x040 + 4 * k.val)) w) s = .next { s with din := din } ∧
      ∀ j : Fin 32, din[j] = if j.val / 4 = k.val then w.extractLsb' (8 * (j.val % 4)) 8 else s.din[j]

/-- R31 to R53, R75, R76, R80, R81, R85: an aligned 4-byte read of a readable register whose value is not one the in-flight
command is writing returns the register's value and has no side effect. What each register reads is written out: the constants,
the halves of LEN, the word registers and H as they are, and the words of DIN, DOUT, BLK and PAD in lane order; the bits of
STATUS are the statement StatusBitsAreTheFlags. (model) The value stands in rdata (assumption log 5). -/
def Obligations.ReadsAreExactAndSilent : Prop :=
  (∀ (s : State) (r : Reg), r ≠ .cmd → (∀ i, s.slot = some i → unspecifiedDuring i r = false) →
    hostTransaction (readWord r.offset) s = .next { s with rdata := readReg r s }) ∧
  ∀ s : State,
    readReg .id s = 0x4D445831 ∧ readReg .version s = 0x00010000 ∧ readReg .status s = statusWord s ∧
    readReg .lenLo s = BitVec.ofNat 32 (s.len.toNat % 2 ^ 32) ∧ readReg .lenHi s = BitVec.ofNat 32 (s.len.toNat / 2 ^ 32) ∧
    readReg .padlen s = s.padlen ∧ readReg .diglen s = s.diglen ∧ readReg .data s = s.data ∧ readReg .fill s = s.fill ∧
    readReg .blkcnt s = s.blkcnt ∧ readReg .errinfo s = s.errinfo ∧
    (∀ k : Fin 8, readReg (.h k) s = s.h[k]) ∧
    (∀ (k : Fin 8) (j : Fin 4), (readReg (.din k) s).extractLsb' (8 * j.val) 8 = s.din[4 * k.val + j.val] ∧
      (readReg (.dout k) s).extractLsb' (8 * j.val) 8 = s.dout[4 * k.val + j.val]) ∧
    (∀ (k : Fin 16) (j : Fin 4), (readReg (.blk k) s).extractLsb' (8 * j.val) 8 = s.blk[4 * k.val + j.val]) ∧
    ∀ (k : Fin 18) (j : Fin 4), (readReg (.pad k) s).extractLsb' (8 * j.val) 8 = s.pad[4 * k.val + j.val]

/-- R279: the table of the reads that are unspecified while BUSY = 1; such a read returns a free draw and changes no state of
MDX; every other register and STATUS read exactly; and a command's issue leaves SV and PADV as they were. (model) The value
read stands in rdata (assumption log 5), and the free draws are numbered by the counter draws (assumption log 2, a DESIGN
CHOICE). -/
def Obligations.InFlightResultsReadUnspecified : Prop :=
  (∀ r : Reg,
    (unspecifiedDuring .padGen r = true ↔ r = .padlen ∨ ∃ k, r = .pad k) ∧
    (unspecifiedDuring .stDecode r = true ↔ (∃ k, r = .h k) ∨ (∃ k, r = .blk k) ∨ r = .fill ∨ r = .blkcnt) ∧
    (unspecifiedDuring .stEncode r = true ↔ ∃ k, r = .dout k) ∧
    (unspecifiedDuring .seqClear r = true ↔ (∃ k, r = .blk k) ∨ r = .fill ∨ r = .blkcnt) ∧
    (∀ i : Instr, (∃ n, i = .seqPush n) ∨ i = .seqFlush ∨ i = .seqPushpad →
      (unspecifiedDuring i r = true ↔ (∃ k, r = .h k) ∨ (∃ k, r = .blk k) ∨ r = .fill ∨ r = .blkcnt))) ∧
  (∀ (s : State) (i : Instr) (r : Reg), s.slot = some i → unspecifiedDuring i r = true →
    hostTransaction (readWord r.offset) s = .next { s with rdata := Config.freeRead s.draws, draws := s.draws + 1 }) ∧
  (∀ (s : State) (i : Instr) (r : Reg), s.slot = some i → r ≠ .cmd → unspecifiedDuring i r = false →
    hostTransaction (readWord r.offset) s = .next { s with rdata := readReg r s }) ∧
  (∀ s : State, hostTransaction (readWord 0x00C) s = .next { s with rdata := statusWord s }) ∧
  ∀ (s t : State) (i : Instr), s.slot = none → exec i s = .next t → t.slot = some i → t.sv = s.sv ∧ t.padv = s.padv

/-- R278: while BUSY = 1 a write of CMD with any word but 0x00000001, of LEN_LO, LEN_HI, DIGLEN, DATA or a DIN word stores
nothing and raises BUSY_VIOLATION with its offset; the in-flight command is unchanged. -/
def Obligations.WritesWhileBusyAreDropped : Prop :=
  ∀ (s : State) (off : Offset) (w : Word), s.slot ≠ none →
    (off = 0x008 ∧ w ≠ 0x00000001) ∨ off = 0x010 ∨ off = 0x014 ∨ off = 0x01C ∨ off = 0x020 ∨
      (0x040 ≤ off.toNat ∧ off.toNat < 0x060 ∧ off.toNat % 4 = 0) →
    hostTransaction (writeWord off w) s = .next (raise .busyViolation (off.setWidth 32) s) ∧
      (raise .busyViolation (off.setWidth 32) s).slot = s.slot

/-- R35, R36, R41: the bits of STATUS. -/
def Obligations.StatusBitsAreTheFlags : Prop :=
  ∀ s : State,
    ((statusWord s).getLsbD 0 = true ↔ s.slot ≠ none) ∧ (statusWord s).getLsbD 1 = s.err ∧
    (statusWord s).getLsbD 2 = s.sv ∧ (statusWord s).getLsbD 3 = s.padv ∧
    (statusWord s).extractLsb' 4 4 = s.errcode ∧ (statusWord s).extractLsb' 8 24 = 0

/-- R18, R50, R81: a buffer word reads back the value written to it, the other words are unchanged, and the lanes of a word put
together again are the word. -/
def Obligations.BufferWordsReadBack : Prop :=
  (∀ (d : Digest) (k : Fin 8) (w : Word), bufferWord (setBufferWord d k w) k = w ∧
    ∀ m : Fin 8, m ≠ k → bufferWord (setBufferWord d k w) m = bufferWord d m) ∧
  ∀ w : Word, fromLanes (w.extractLsb' 0 8) (w.extractLsb' 8 8) (w.extractLsb' 16 8) (w.extractLsb' 24 8) = w

/-! ### Padding and codec -/

/-- R124 (a) to (g), over the whole domain: the padding of n completes a multiple of 64, begins with 0x80, ends with the
big-endian 8n, is zero between, and its length depends only on n mod 64 and is 9 to 72. -/
def Obligations.PaddingHasItsProperties : Prop :=
  ∀ n : Nat, n < 2 ^ 61 →
    (n + (padding n).length) % 64 = 0 ∧
    (padding n).head? = some 0x80 ∧
    fromBe ((padding n).drop ((padding n).length - 8)) = 8 * n ∧
    (∀ b ∈ ((padding n).take ((padding n).length - 8)).drop 1, b = 0x00) ∧
    (n % 64 ≤ 55 → (padding n).length = 64 - n % 64) ∧ (56 ≤ n % 64 → (padding n).length = 128 - n % 64) ∧
    9 ≤ (padding n).length ∧ (padding n).length ≤ 72 ∧
    ((padding n).take ((padding n).length - 8)).length - 1 = (padding n).length - 9 ∧ (padding n).length - 9 ≤ 63

/-- R144: the codec laws: each of decode and encode undoes the other, so both are bijections; and an ST_DECODE, then an
ST_ENCODE with H unchanged in between, leave in DOUT what DIN was, byte for byte. -/
def Obligations.CodecRoundTrips : Prop :=
  (∀ d : Digest, encodeState (decodeState d) = d) ∧ (∀ h : ChainState, decodeState (encodeState h) = h) ∧
    Function.Bijective decodeState ∧ Function.Bijective encodeState ∧
    ∀ s t : State, s.slot = some .stDecode → t.slot = some .stEncode → t.h = (completionStep s).h →
      (completionStep t).dout = s.din

/-- R214: the forge is sound for the Merkle–Damgård hash made of COMPRESS, any initial state and P: with the true secret
length, the forged digest is the hash of the secret followed by the forged message, for every appended data. It is a fact
about the values of R212 and assumes nothing of COMPRESS. The lengths are those MDX accepts (R120). -/
def Obligations.ForgedDigestIsTheHash : Prop :=
  ∀ (iv : ChainState) (secret m a : List Byte), resumeOffset m secret.length + a.length < 2 ^ 61 →
    forgedDigest m (merkleDamgard iv (secret ++ m)) a secret.length =
      merkleDamgard iv (secret ++ forgedMessage m a secret.length)

/-- R217, R218: the resume offset is 64*ceil((L + len(M) + 9)/64), FD depends on L only through it, and the stream step F9
pushes is a whole number of blocks. (model) Where L + len(M) or RO + len(A) is 2^61 or more the spec gives P no value and MDX
refuses the length (R120, R213); there the clauses speak of the model's total function (assumption log 20, a DESIGN CHOICE). -/
def Obligations.ResumeOffsetDecidesTheForgery : Prop :=
  (∀ (m : List Byte) (l : Nat), resumeOffset m l = 64 * ((l + m.length + 9 + 63) / 64)) ∧
  (∀ (m a : List Byte) (mac : Digest) (l k : Nat), resumeOffset m l = resumeOffset m k →
    forgedDigest m mac a l = forgedDigest m mac a k) ∧
  ∀ (m a : List Byte) (l : Nat), (a ++ padding (resumeOffset m l + a.length)).length % 64 = 0

/-! ### The stream -/

/-- R169: the stream of appended bytes. A completed ST_DECODE, or SEQ_CLEAR, begins an empty stream at the H it leaves; each
completed SEQ_PUSH and SEQ_PUSHPAD extends the stream by its bytes; and SEQ_FLUSH then leaves H = extend(h0, s), BLKCNT =
ceil(len(s)/64) mod 2^32 and FILL = 0, whatever commands the stream was split into. -/
def Obligations.CommandsComputeExtend : Prop :=
  (∀ s : State, s.slot = some .stDecode → Absorbed (decodeState s.din) [] (completionStep s)) ∧
  (∀ s : State, s.slot = some .seqClear → Absorbed s.h [] (completionStep s)) ∧
  (∀ (s : State) (h0 : ChainState) (d : List Byte) (n : BitVec 3), Absorbed h0 d s → s.slot = some (.seqPush n) →
    Absorbed h0 (d ++ pushedBytes n s) (completionStep s)) ∧
  (∀ (s : State) (h0 : ChainState) (d : List Byte), Absorbed h0 d s → s.slot = some .seqPushpad →
    Absorbed h0 (d ++ paddingBytes s) (completionStep s)) ∧
  ∀ (s : State) (h0 : ChainState) (d : List Byte), Absorbed h0 d s → s.slot = some .seqFlush →
    (completionStep s).h = extend h0 d ∧ (completionStep s).fill = 0 ∧
      (completionStep s).blkcnt = BitVec.ofNat 32 ((d.length + 63) / 64)

/-- R56, R170, R281: how many compressions a command makes: SEQ_PUSH and SEQ_FLUSH at most one, SEQ_PUSHPAD at most two, every
other command none; and BLKCNT counts them modulo 2^32. -/
def Obligations.CompressionsAreBounded : Prop :=
  ∀ s : State, Inv s →
    (∀ n, countLegal n = true → (coreRequests (.seqPush n) s).length = (s.fill.toNat + n.toNat) / 64 ∧
      (coreRequests (.seqPush n) s).length ≤ 1) ∧
    (coreRequests .seqFlush s).length ≤ 1 ∧
    (coreRequests .seqPushpad s).length = (s.fill.toNat + s.padlen.toNat) / 64 ∧
    (coreRequests .seqPushpad s).length ≤ 2 ∧
    (∀ i, i = .padGen ∨ i = .stDecode ∨ i = .stEncode ∨ i = .seqClear → coreRequests i s = []) ∧
    (∀ i, (∃ n, i = .seqPush n) ∨ i = .seqFlush ∨ i = .seqPushpad →
      (completionEffect i s).blkcnt = s.blkcnt + BitVec.ofNat 32 (coreRequests i s).length)

/-- R83, R162, R170: the requests of a command are a chain: the first carries H, each later one carries COMPRESS's answer to
the one before, and H after the completion is the answer to the last, or unchanged if there is none. -/
def Obligations.RequestsChainThroughTheCore : Prop :=
  ∀ (s : State) (i : Instr), (∃ n, i = .seqPush n) ∨ i = .seqFlush ∨ i = .seqPushpad →
    (∀ r, (coreRequests i s)[0]? = some r → r.h = s.h) ∧
    (∀ (k : Nat) (r q : CoreRequest), (coreRequests i s)[k]? = some r → (coreRequests i s)[k + 1]? = some q →
      q.h = Config.compress r.h r.blk) ∧
    (∀ r, (coreRequests i s).getLast? = some r → (completionEffect i s).h = Config.compress r.h r.blk) ∧
    (coreRequests i s = [] → (completionEffect i s).h = s.h)

/-- R56, R83, R261: the core port. A request is sent only while a command that has one left is in flight and none is
outstanding, and it changes neither H nor BLK; an answer ends the transaction; the answer to a request that a reset aborted is
discarded. (model) The counter of answers (assumption log 4). -/
def Obligations.CorePortHoldsOneRequest : Prop :=
  ∀ s : State,
    (∀ i r, s.slot = some i → s.core = none → (coreRequests i s)[s.answered]? = some r →
      handleEvent .coreRequest s = .next { s with core := some r }) ∧
    (∀ i, s.slot = some i → (coreRequests i s)[s.answered]? = none → handleEvent .coreRequest s = .next s) ∧
    (s.slot = none ∨ s.core ≠ none → handleEvent .coreRequest s = .next s) ∧
    (∀ r, s.core = some r → handleEvent .coreAnswer s = .next { s with core := none, answered := s.answered + 1 }) ∧
    (s.core = none → handleEvent .coreAnswer s = .next s) ∧
    handleEvent .lateAnswer s = .next s ∧
    (resetAll s).core = none ∧ (resetAll s).slot = none

/-- R83, R105, R170: what the core does for a command just issued: as many rounds of a request and its answer as the command has
requests change nothing but (model) the counter of answers (assumption log 4), and then the command completes with its
effect. -/
def Obligations.AnsweredCommandCompletes : Prop :=
  ∀ (s : State) (i : Instr), s.slot = some i → s.core = none → s.answered = 0 →
    serveCore (coreRequests i s).length s = { s with answered := (coreRequests i s).length } ∧
    handleEvent .complete (serveCore (coreRequests i s).length s) = .next (retire (completionEffect i s))

/-- R16, R275: without an answer of the core a command that waits for one stays in flight: every event but the core's answer and
a reset leaves it in the slot, waiting, with BUSY = 1. (model) That it waits is said by the counter of answers, which is below the
number of its requests and which the step keeps, and a `complete` event that comes while it waits is one of the events that leave
it waiting (assumption log 4, a DESIGN CHOICE). -/
def Obligations.CompletionWaitsForTheCore : Prop :=
  ∀ (s t : State) (i : Instr) (e : Event) (rest : List Event), s.slot = some i → s.answered < (coreRequests i s).length →
    s.events = e :: rest → e ≠ .coreAnswer → ¬ e.isReset → step s = .next t →
    t.slot = some i ∧ t.busy = true ∧ coreRequests i t = coreRequests i s ∧ t.answered = s.answered

/-! ### Whole-machine rules -/

/-- R54, R55, R56: the invariant holds after reset. -/
def Obligations.InvariantHoldsAtReset : Prop := Inv State.reset

/-- R54, R55, R56: every step keeps the invariant, from every state that meets it. -/
def Obligations.EveryStepKeepsTheInvariant : Prop := ∀ s t : State, Inv s → step s = .next t → Inv t

/-- R230: what the CMD write of a command leaves unchanged, whatever it answers with: but for SOFT_RESET, every operand and
result register, H and the buffers; only the slot, the error fields, SV (ST_DECODE) and PADV (PAD_GEN) can change. -/
def Obligations.CmdWriteFrame : Prop :=
  ∀ (i : Instr) (s t : State), i ≠ .softReset → exec i s = .next t →
    t = { s with slot := t.slot, err := t.err, errcode := t.errcode, errinfo := t.errinfo, sv := t.sv, padv := t.padv } ∧
    (i ≠ .stDecode → t.sv = s.sv) ∧ (i ≠ .padGen → t.padv = s.padv) ∧
    (t.slot = s.slot ∨ (s.slot = none ∧ t.slot = some i ∧ i.isLong = true ∧
      t = { s with slot := some i })) ∧
    (i = .nop ∨ i = .clrErr → t.slot = s.slot)

/-- R106: what the completion of the byte-stream commands leaves unchanged: everything but H, BLK, FILL and BLKCNT, and the
slot and core fields that the end of the step clears. -/
def Obligations.StreamCompletionFrame : Prop :=
  ∀ (i : Instr) (s : State), (∃ n, i = .seqPush n) ∨ i = .seqFlush ∨ i = .seqPushpad → s.slot = some i →
    completionStep s = { s with h := (completionStep s).h, blk := (completionStep s).blk, fill := (completionStep s).fill,
                                blkcnt := (completionStep s).blkcnt, slot := none, core := none, answered := 0 }

/-- R235, R275, R278: while BUSY = 1, an event that is neither the completion step nor a reset leaves the in-flight command,
its operands and all its results as they were: only the error fields and (model) the core port, the host port and the events
to come can change. So BUSY stays 1. -/
def Obligations.InFlightCommandIsUndisturbed : Prop :=
  ∀ (s t : State) (e : Event) (rest : List Event), s.slot ≠ none → s.events = e :: rest →
    e ≠ .complete → ¬ e.isReset → step s = .next t →
    t = { s with err := t.err, errcode := t.errcode, errinfo := t.errinfo, core := t.core, answered := t.answered,
                 rdata := t.rdata, draws := t.draws, events := rest }

/-- R33, R46, R48, R51, R52, R53, R106: the results are written by their own commands only. But for a reset, H changes only at a
completion of ST_DECODE, SEQ_PUSH, SEQ_FLUSH or SEQ_PUSHPAD; BLK, FILL and BLKCNT only at one of these or of SEQ_CLEAR; DOUT
only at ST_ENCODE's; PAD and PADLEN only at PAD_GEN's. -/
def Obligations.ResultsHaveOneWriter : Prop :=
  ∀ (s t : State) (e : Event) (rest : List Event), s.events = e :: rest → step s = .next t → ¬ e.isReset →
    (t.h ≠ s.h → e = .complete ∧ (s.slot = some .stDecode ∨ (∃ n, s.slot = some (.seqPush n)) ∨
      s.slot = some .seqFlush ∨ s.slot = some .seqPushpad)) ∧
    (t.blk ≠ s.blk ∨ t.fill ≠ s.fill ∨ t.blkcnt ≠ s.blkcnt → e = .complete ∧ (s.slot = some .stDecode ∨
      s.slot = some .seqClear ∨ (∃ n, s.slot = some (.seqPush n)) ∨ s.slot = some .seqFlush ∨ s.slot = some .seqPushpad)) ∧
    (t.dout ≠ s.dout → e = .complete ∧ s.slot = some .stEncode) ∧
    (t.pad ≠ s.pad ∨ t.padlen ≠ s.padlen → e = .complete ∧ s.slot = some .padGen)

/-- R42, R44, R45, R50, R55: no command writes an operand: LEN, DIGLEN, DATA and DIN change only at a host write to their own
offset made while BUSY = 0, or at a reset. -/
def Obligations.OnlyTheHostWritesOperands : Prop :=
  ∀ (s t : State) (e : Event) (rest : List Event), s.events = e :: rest → step s = .next t → ¬ e.isReset →
    t.len ≠ s.len ∨ t.diglen ≠ s.diglen ∨ t.data ≠ s.data ∨ t.din ≠ s.din →
    s.slot = none ∧ ∃ off w, e = .host (writeWord off w) ∧
      (t.len ≠ s.len → off = 0x010 ∨ off = 0x014) ∧ (t.diglen ≠ s.diglen → off = 0x01C) ∧
      (t.data ≠ s.data → off = 0x020) ∧ (t.din ≠ s.din → 0x040 ≤ off.toNat ∧ off.toNat < 0x060)

/-- R37, R40, R237: ERR is sticky: from ERR = 1 only a CLR_ERR executed while BUSY = 0 and a reset clear it, and until then
ERRCODE and ERRINFO keep the first error. -/
def Obligations.ErrorIsStickyUntilCleared : Prop :=
  ∀ (s t : State) (e : Event) (rest : List Event), s.err = true → s.events = e :: rest → step s = .next t →
    ¬ e.isReset → ¬ (e = .host (cmdTransaction 0x00000002) ∧ s.slot = none) →
    t.err = true ∧ t.errcode = s.errcode ∧ t.errinfo = s.errinfo

/-- R38, R39: SV becomes 1 only at the completion of an ST_DECODE, and PADV only at that of a PAD_GEN; SV becomes 0 only at an
ST_DECODE written to CMD or a reset, and PADV only at a PAD_GEN written to CMD or a reset. -/
def Obligations.ValidityBitsHaveOneSetter : Prop :=
  ∀ (s t : State) (e : Event) (rest : List Event), s.events = e :: rest → step s = .next t →
    (s.sv = false → t.sv = true → e = .complete ∧ s.slot = some .stDecode) ∧
    (s.padv = false → t.padv = true → e = .complete ∧ s.slot = some .padGen) ∧
    (s.sv = true → t.sv = false → e.isReset ∨ e = .host (cmdTransaction 0x00000020)) ∧
    (s.padv = true → t.padv = false → e.isReset ∨ e = .host (cmdTransaction 0x00000010))

/-- R265: while SV = 0 no compression request is outstanding or is sent, DOUT keeps its value, and H keeps its value but for a
completed ST_DECODE, at which SV becomes 1, and a reset. So the reset value of H reaches neither DOUT nor the core. -/
def Obligations.UndecodedStateNeverLeaves : Prop :=
  ∀ (s t : State) (e : Event) (rest : List Event), Inv s → s.sv = false → s.events = e :: rest → step s = .next t →
    s.core = none ∧ t.core = none ∧ (e.isReset ∨ (t.dout = s.dout ∧ (t.h = s.h ∨ t.sv = true)))

/-- R213, R219: a transaction of a host that keeps its duties is never an error of the host port: from ERR = 0 it can record only
MALFORMED_DIGEST, LENGTH_OVERFLOW, NO_STATE or NO_PAD, and its reads draw no free value. (model) Dutiful adds two clauses to the
duties that R219 lists, that the address map allows the access and that a word written to CMD is legal (assumption log 18); the
draws are counted by draws (assumption log 2). -/
def Obligations.DutifulHostMeetsOnlyCommandErrors : Prop :=
  ∀ (s : State) (tr : Transaction), s.err = false → Dutiful tr s →
    ∃ t, hostTransaction tr s = .next t ∧ t.draws = s.draws ∧
      (t.err = true → t.errcode = 1 ∨ t.errcode = 2 ∨ t.errcode = 6 ∨ t.errcode = 7)

/-- R12, R16, R55, R105: in every run in which the core answers every request (R16) and the command unit goes on, from a state
that meets the invariant, a command in flight ends: at some later state it is still in flight, its operands are those of now, and
the next event is its completion step, with every request answered, or a reset. (model) UnitGoesOn, that the unit completes or
sends its next request at some point, is assumption log 14's reading of R105 and R12. -/
def Obligations.InFlightCommandEndsOnItsOperands : Prop :=
  ∀ (run : Nat → State) (k : Nat) (i : Instr), IsRun run → CoreResponds run → UnitGoesOn run → Inv (run k) →
    (run k).slot = some i →
    ∃ j : Nat, k ≤ j ∧ (run j).slot = some i ∧
      ((nextEvent run j = some .complete ∧ (coreRequests i (run j)).length ≤ (run j).answered) ∨ ResetAt run j) ∧
      (run j).len = (run k).len ∧ (run j).diglen = (run k).diglen ∧ (run j).din = (run k).din ∧
      (run j).data = (run k).data ∧ (run j).pad = (run k).pad ∧ (run j).padlen = (run k).padlen ∧
      (run j).h = (run k).h ∧ (run j).blk = (run k).blk ∧ (run j).fill = (run k).fill ∧
      (run j).sv = (run k).sv ∧ (run j).padv = (run k).padv
end

