-- ==== Sys2Proof/Laws/State.lean ====
section
/-! SUPPORT. One lemma per field per update of State, so that no later proof unfolds a record update. -/

namespace Sys2Proof.Machine

/-! ### clearError -/

@[simp] theorem clearError_len (s : State) : (clearError s).len = s.len := rfl
@[simp] theorem clearError_padlen (s : State) : (clearError s).padlen = s.padlen := rfl
@[simp] theorem clearError_diglen (s : State) : (clearError s).diglen = s.diglen := rfl
@[simp] theorem clearError_data (s : State) : (clearError s).data = s.data := rfl
@[simp] theorem clearError_fill (s : State) : (clearError s).fill = s.fill := rfl
@[simp] theorem clearError_blkcnt (s : State) : (clearError s).blkcnt = s.blkcnt := rfl
@[simp] theorem clearError_errinfo (s : State) : (clearError s).errinfo = 0 := rfl
@[simp] theorem clearError_err (s : State) : (clearError s).err = false := rfl
@[simp] theorem clearError_sv (s : State) : (clearError s).sv = s.sv := rfl
@[simp] theorem clearError_padv (s : State) : (clearError s).padv = s.padv := rfl
@[simp] theorem clearError_errcode (s : State) : (clearError s).errcode = 0 := rfl
@[simp] theorem clearError_din (s : State) : (clearError s).din = s.din := rfl
@[simp] theorem clearError_dout (s : State) : (clearError s).dout = s.dout := rfl
@[simp] theorem clearError_h (s : State) : (clearError s).h = s.h := rfl
@[simp] theorem clearError_blk (s : State) : (clearError s).blk = s.blk := rfl
@[simp] theorem clearError_pad (s : State) : (clearError s).pad = s.pad := rfl
@[simp] theorem clearError_slot (s : State) : (clearError s).slot = s.slot := rfl
@[simp] theorem clearError_core (s : State) : (clearError s).core = s.core := rfl
@[simp] theorem clearError_answered (s : State) : (clearError s).answered = s.answered := rfl
@[simp] theorem clearError_events (s : State) : (clearError s).events = s.events := rfl
@[simp] theorem clearError_rdata (s : State) : (clearError s).rdata = s.rdata := rfl
@[simp] theorem clearError_draws (s : State) : (clearError s).draws = s.draws := rfl

/-! ### resetAll -/

@[simp] theorem resetAll_len (s : State) : (resetAll s).len = State.reset.len := rfl
@[simp] theorem resetAll_padlen (s : State) : (resetAll s).padlen = State.reset.padlen := rfl
@[simp] theorem resetAll_diglen (s : State) : (resetAll s).diglen = State.reset.diglen := rfl
@[simp] theorem resetAll_data (s : State) : (resetAll s).data = State.reset.data := rfl
@[simp] theorem resetAll_fill (s : State) : (resetAll s).fill = State.reset.fill := rfl
@[simp] theorem resetAll_blkcnt (s : State) : (resetAll s).blkcnt = State.reset.blkcnt := rfl
@[simp] theorem resetAll_errinfo (s : State) : (resetAll s).errinfo = State.reset.errinfo := rfl
@[simp] theorem resetAll_err (s : State) : (resetAll s).err = State.reset.err := rfl
@[simp] theorem resetAll_sv (s : State) : (resetAll s).sv = State.reset.sv := rfl
@[simp] theorem resetAll_padv (s : State) : (resetAll s).padv = State.reset.padv := rfl
@[simp] theorem resetAll_errcode (s : State) : (resetAll s).errcode = State.reset.errcode := rfl
@[simp] theorem resetAll_din (s : State) : (resetAll s).din = State.reset.din := rfl
@[simp] theorem resetAll_dout (s : State) : (resetAll s).dout = State.reset.dout := rfl
@[simp] theorem resetAll_h (s : State) : (resetAll s).h = State.reset.h := rfl
@[simp] theorem resetAll_blk (s : State) : (resetAll s).blk = State.reset.blk := rfl
@[simp] theorem resetAll_pad (s : State) : (resetAll s).pad = State.reset.pad := rfl
@[simp] theorem resetAll_slot (s : State) : (resetAll s).slot = State.reset.slot := rfl
@[simp] theorem resetAll_core (s : State) : (resetAll s).core = State.reset.core := rfl
@[simp] theorem resetAll_answered (s : State) : (resetAll s).answered = State.reset.answered := rfl
@[simp] theorem resetAll_events (s : State) : (resetAll s).events = s.events := rfl
@[simp] theorem resetAll_rdata (s : State) : (resetAll s).rdata = s.rdata := rfl
@[simp] theorem resetAll_draws (s : State) : (resetAll s).draws = s.draws := rfl

/-! ### issue -/

@[simp] theorem issue_len (i : Instr) (s : State) : (issue i s).len = s.len := rfl
@[simp] theorem issue_padlen (i : Instr) (s : State) : (issue i s).padlen = s.padlen := rfl
@[simp] theorem issue_diglen (i : Instr) (s : State) : (issue i s).diglen = s.diglen := rfl
@[simp] theorem issue_data (i : Instr) (s : State) : (issue i s).data = s.data := rfl
@[simp] theorem issue_fill (i : Instr) (s : State) : (issue i s).fill = s.fill := rfl
@[simp] theorem issue_blkcnt (i : Instr) (s : State) : (issue i s).blkcnt = s.blkcnt := rfl
@[simp] theorem issue_errinfo (i : Instr) (s : State) : (issue i s).errinfo = s.errinfo := rfl
@[simp] theorem issue_err (i : Instr) (s : State) : (issue i s).err = s.err := rfl
@[simp] theorem issue_sv (i : Instr) (s : State) : (issue i s).sv = s.sv := rfl
@[simp] theorem issue_padv (i : Instr) (s : State) : (issue i s).padv = s.padv := rfl
@[simp] theorem issue_errcode (i : Instr) (s : State) : (issue i s).errcode = s.errcode := rfl
@[simp] theorem issue_din (i : Instr) (s : State) : (issue i s).din = s.din := rfl
@[simp] theorem issue_dout (i : Instr) (s : State) : (issue i s).dout = s.dout := rfl
@[simp] theorem issue_h (i : Instr) (s : State) : (issue i s).h = s.h := rfl
@[simp] theorem issue_blk (i : Instr) (s : State) : (issue i s).blk = s.blk := rfl
@[simp] theorem issue_pad (i : Instr) (s : State) : (issue i s).pad = s.pad := rfl
@[simp] theorem issue_slot (i : Instr) (s : State) : (issue i s).slot = some i := rfl
@[simp] theorem issue_core (i : Instr) (s : State) : (issue i s).core = s.core := rfl
@[simp] theorem issue_answered (i : Instr) (s : State) : (issue i s).answered = s.answered := rfl
@[simp] theorem issue_events (i : Instr) (s : State) : (issue i s).events = s.events := rfl
@[simp] theorem issue_rdata (i : Instr) (s : State) : (issue i s).rdata = s.rdata := rfl
@[simp] theorem issue_draws (i : Instr) (s : State) : (issue i s).draws = s.draws := rfl

/-! ### retire -/

@[simp] theorem retire_len (s : State) : (retire s).len = s.len := rfl
@[simp] theorem retire_padlen (s : State) : (retire s).padlen = s.padlen := rfl
@[simp] theorem retire_diglen (s : State) : (retire s).diglen = s.diglen := rfl
@[simp] theorem retire_data (s : State) : (retire s).data = s.data := rfl
@[simp] theorem retire_fill (s : State) : (retire s).fill = s.fill := rfl
@[simp] theorem retire_blkcnt (s : State) : (retire s).blkcnt = s.blkcnt := rfl
@[simp] theorem retire_errinfo (s : State) : (retire s).errinfo = s.errinfo := rfl
@[simp] theorem retire_err (s : State) : (retire s).err = s.err := rfl
@[simp] theorem retire_sv (s : State) : (retire s).sv = s.sv := rfl
@[simp] theorem retire_padv (s : State) : (retire s).padv = s.padv := rfl
@[simp] theorem retire_errcode (s : State) : (retire s).errcode = s.errcode := rfl
@[simp] theorem retire_din (s : State) : (retire s).din = s.din := rfl
@[simp] theorem retire_dout (s : State) : (retire s).dout = s.dout := rfl
@[simp] theorem retire_h (s : State) : (retire s).h = s.h := rfl
@[simp] theorem retire_blk (s : State) : (retire s).blk = s.blk := rfl
@[simp] theorem retire_pad (s : State) : (retire s).pad = s.pad := rfl
@[simp] theorem retire_slot (s : State) : (retire s).slot = none := rfl
@[simp] theorem retire_core (s : State) : (retire s).core = none := rfl
@[simp] theorem retire_answered (s : State) : (retire s).answered = 0 := rfl
@[simp] theorem retire_events (s : State) : (retire s).events = s.events := rfl
@[simp] theorem retire_rdata (s : State) : (retire s).rdata = s.rdata := rfl
@[simp] theorem retire_draws (s : State) : (retire s).draws = s.draws := rfl

/-! ### sequencerClear -/

@[simp] theorem sequencerClear_len (s : State) : (sequencerClear s).len = s.len := rfl
@[simp] theorem sequencerClear_padlen (s : State) : (sequencerClear s).padlen = s.padlen := rfl
@[simp] theorem sequencerClear_diglen (s : State) : (sequencerClear s).diglen = s.diglen := rfl
@[simp] theorem sequencerClear_data (s : State) : (sequencerClear s).data = s.data := rfl
@[simp] theorem sequencerClear_fill (s : State) : (sequencerClear s).fill = 0 := rfl
@[simp] theorem sequencerClear_blkcnt (s : State) : (sequencerClear s).blkcnt = 0 := rfl
@[simp] theorem sequencerClear_errinfo (s : State) : (sequencerClear s).errinfo = s.errinfo := rfl
@[simp] theorem sequencerClear_err (s : State) : (sequencerClear s).err = s.err := rfl
@[simp] theorem sequencerClear_sv (s : State) : (sequencerClear s).sv = s.sv := rfl
@[simp] theorem sequencerClear_padv (s : State) : (sequencerClear s).padv = s.padv := rfl
@[simp] theorem sequencerClear_errcode (s : State) : (sequencerClear s).errcode = s.errcode := rfl
@[simp] theorem sequencerClear_din (s : State) : (sequencerClear s).din = s.din := rfl
@[simp] theorem sequencerClear_dout (s : State) : (sequencerClear s).dout = s.dout := rfl
@[simp] theorem sequencerClear_h (s : State) : (sequencerClear s).h = s.h := rfl
@[simp] theorem sequencerClear_blk (s : State) : (sequencerClear s).blk = Vector.replicate 64 0 := rfl
@[simp] theorem sequencerClear_pad (s : State) : (sequencerClear s).pad = s.pad := rfl
@[simp] theorem sequencerClear_slot (s : State) : (sequencerClear s).slot = s.slot := rfl
@[simp] theorem sequencerClear_core (s : State) : (sequencerClear s).core = s.core := rfl
@[simp] theorem sequencerClear_answered (s : State) : (sequencerClear s).answered = s.answered := rfl
@[simp] theorem sequencerClear_events (s : State) : (sequencerClear s).events = s.events := rfl
@[simp] theorem sequencerClear_rdata (s : State) : (sequencerClear s).rdata = s.rdata := rfl
@[simp] theorem sequencerClear_draws (s : State) : (sequencerClear s).draws = s.draws := rfl

/-! ### blockStep -/

@[simp] theorem blockStep_len (s : State) : (blockStep s).len = s.len := rfl
@[simp] theorem blockStep_padlen (s : State) : (blockStep s).padlen = s.padlen := rfl
@[simp] theorem blockStep_diglen (s : State) : (blockStep s).diglen = s.diglen := rfl
@[simp] theorem blockStep_data (s : State) : (blockStep s).data = s.data := rfl
@[simp] theorem blockStep_fill (s : State) : (blockStep s).fill = 0 := rfl
@[simp] theorem blockStep_blkcnt (s : State) : (blockStep s).blkcnt = s.blkcnt + 1 := rfl
@[simp] theorem blockStep_errinfo (s : State) : (blockStep s).errinfo = s.errinfo := rfl
@[simp] theorem blockStep_err (s : State) : (blockStep s).err = s.err := rfl
@[simp] theorem blockStep_sv (s : State) : (blockStep s).sv = s.sv := rfl
@[simp] theorem blockStep_padv (s : State) : (blockStep s).padv = s.padv := rfl
@[simp] theorem blockStep_errcode (s : State) : (blockStep s).errcode = s.errcode := rfl
@[simp] theorem blockStep_din (s : State) : (blockStep s).din = s.din := rfl
@[simp] theorem blockStep_dout (s : State) : (blockStep s).dout = s.dout := rfl
@[simp] theorem blockStep_h (s : State) : (blockStep s).h = Config.compress s.h s.blk := rfl
@[simp] theorem blockStep_blk (s : State) : (blockStep s).blk = Vector.replicate 64 0 := rfl
@[simp] theorem blockStep_pad (s : State) : (blockStep s).pad = s.pad := rfl
@[simp] theorem blockStep_slot (s : State) : (blockStep s).slot = s.slot := rfl
@[simp] theorem blockStep_core (s : State) : (blockStep s).core = s.core := rfl
@[simp] theorem blockStep_answered (s : State) : (blockStep s).answered = s.answered := rfl
@[simp] theorem blockStep_events (s : State) : (blockStep s).events = s.events := rfl
@[simp] theorem blockStep_rdata (s : State) : (blockStep s).rdata = s.rdata := rfl
@[simp] theorem blockStep_draws (s : State) : (blockStep s).draws = s.draws := rfl

/-! ### storeByte -/

@[simp] theorem storeByte_len (b : Byte) (s : State) : (storeByte b s).len = s.len := rfl
@[simp] theorem storeByte_padlen (b : Byte) (s : State) : (storeByte b s).padlen = s.padlen := rfl
@[simp] theorem storeByte_diglen (b : Byte) (s : State) : (storeByte b s).diglen = s.diglen := rfl
@[simp] theorem storeByte_data (b : Byte) (s : State) : (storeByte b s).data = s.data := rfl
@[simp] theorem storeByte_fill (b : Byte) (s : State) : (storeByte b s).fill = s.fill + 1 := rfl
@[simp] theorem storeByte_blkcnt (b : Byte) (s : State) : (storeByte b s).blkcnt = s.blkcnt := rfl
@[simp] theorem storeByte_errinfo (b : Byte) (s : State) : (storeByte b s).errinfo = s.errinfo := rfl
@[simp] theorem storeByte_err (b : Byte) (s : State) : (storeByte b s).err = s.err := rfl
@[simp] theorem storeByte_sv (b : Byte) (s : State) : (storeByte b s).sv = s.sv := rfl
@[simp] theorem storeByte_padv (b : Byte) (s : State) : (storeByte b s).padv = s.padv := rfl
@[simp] theorem storeByte_errcode (b : Byte) (s : State) : (storeByte b s).errcode = s.errcode := rfl
@[simp] theorem storeByte_din (b : Byte) (s : State) : (storeByte b s).din = s.din := rfl
@[simp] theorem storeByte_dout (b : Byte) (s : State) : (storeByte b s).dout = s.dout := rfl
@[simp] theorem storeByte_h (b : Byte) (s : State) : (storeByte b s).h = s.h := rfl
@[simp] theorem storeByte_blk (b : Byte) (s : State) : (storeByte b s).blk = s.blk.setIfInBounds s.fill.toNat b := rfl
@[simp] theorem storeByte_pad (b : Byte) (s : State) : (storeByte b s).pad = s.pad := rfl
@[simp] theorem storeByte_slot (b : Byte) (s : State) : (storeByte b s).slot = s.slot := rfl
@[simp] theorem storeByte_core (b : Byte) (s : State) : (storeByte b s).core = s.core := rfl
@[simp] theorem storeByte_answered (b : Byte) (s : State) : (storeByte b s).answered = s.answered := rfl
@[simp] theorem storeByte_events (b : Byte) (s : State) : (storeByte b s).events = s.events := rfl
@[simp] theorem storeByte_rdata (b : Byte) (s : State) : (storeByte b s).rdata = s.rdata := rfl
@[simp] theorem storeByte_draws (b : Byte) (s : State) : (storeByte b s).draws = s.draws := rfl

/-! ### raise: everything but the error fields -/

@[simp] theorem raise_len (e : ErrorKind) (info : Word) (s : State) : (raise e info s).len = s.len := by unfold raise; split <;> simp_all
@[simp] theorem raise_padlen (e : ErrorKind) (info : Word) (s : State) : (raise e info s).padlen = s.padlen := by unfold raise; split <;> simp_all
@[simp] theorem raise_diglen (e : ErrorKind) (info : Word) (s : State) : (raise e info s).diglen = s.diglen := by unfold raise; split <;> simp_all
@[simp] theorem raise_data (e : ErrorKind) (info : Word) (s : State) : (raise e info s).data = s.data := by unfold raise; split <;> simp_all
@[simp] theorem raise_fill (e : ErrorKind) (info : Word) (s : State) : (raise e info s).fill = s.fill := by unfold raise; split <;> simp_all
@[simp] theorem raise_blkcnt (e : ErrorKind) (info : Word) (s : State) : (raise e info s).blkcnt = s.blkcnt := by unfold raise; split <;> simp_all
@[simp] theorem raise_err (e : ErrorKind) (info : Word) (s : State) : (raise e info s).err = true := by unfold raise; split <;> simp_all
@[simp] theorem raise_sv (e : ErrorKind) (info : Word) (s : State) : (raise e info s).sv = s.sv := by unfold raise; split <;> simp_all
@[simp] theorem raise_padv (e : ErrorKind) (info : Word) (s : State) : (raise e info s).padv = s.padv := by unfold raise; split <;> simp_all
@[simp] theorem raise_din (e : ErrorKind) (info : Word) (s : State) : (raise e info s).din = s.din := by unfold raise; split <;> simp_all
@[simp] theorem raise_dout (e : ErrorKind) (info : Word) (s : State) : (raise e info s).dout = s.dout := by unfold raise; split <;> simp_all
@[simp] theorem raise_h (e : ErrorKind) (info : Word) (s : State) : (raise e info s).h = s.h := by unfold raise; split <;> simp_all
@[simp] theorem raise_blk (e : ErrorKind) (info : Word) (s : State) : (raise e info s).blk = s.blk := by unfold raise; split <;> simp_all
@[simp] theorem raise_pad (e : ErrorKind) (info : Word) (s : State) : (raise e info s).pad = s.pad := by unfold raise; split <;> simp_all
@[simp] theorem raise_slot (e : ErrorKind) (info : Word) (s : State) : (raise e info s).slot = s.slot := by unfold raise; split <;> simp_all
@[simp] theorem raise_core (e : ErrorKind) (info : Word) (s : State) : (raise e info s).core = s.core := by unfold raise; split <;> simp_all
@[simp] theorem raise_answered (e : ErrorKind) (info : Word) (s : State) : (raise e info s).answered = s.answered := by unfold raise; split <;> simp_all
@[simp] theorem raise_events (e : ErrorKind) (info : Word) (s : State) : (raise e info s).events = s.events := by unfold raise; split <;> simp_all
@[simp] theorem raise_rdata (e : ErrorKind) (info : Word) (s : State) : (raise e info s).rdata = s.rdata := by unfold raise; split <;> simp_all
@[simp] theorem raise_draws (e : ErrorKind) (info : Word) (s : State) : (raise e info s).draws = s.draws := by unfold raise; split <;> simp_all

/-! ### appendByte: everything but the stream fields -/

@[simp] theorem appendByte_len (b : Byte) (s : State) : (appendByte b s).len = s.len := by unfold appendByte; split <;> rfl
@[simp] theorem appendByte_padlen (b : Byte) (s : State) : (appendByte b s).padlen = s.padlen := by unfold appendByte; split <;> rfl
@[simp] theorem appendByte_diglen (b : Byte) (s : State) : (appendByte b s).diglen = s.diglen := by unfold appendByte; split <;> rfl
@[simp] theorem appendByte_data (b : Byte) (s : State) : (appendByte b s).data = s.data := by unfold appendByte; split <;> rfl
@[simp] theorem appendByte_errinfo (b : Byte) (s : State) : (appendByte b s).errinfo = s.errinfo := by unfold appendByte; split <;> rfl
@[simp] theorem appendByte_err (b : Byte) (s : State) : (appendByte b s).err = s.err := by unfold appendByte; split <;> rfl
@[simp] theorem appendByte_sv (b : Byte) (s : State) : (appendByte b s).sv = s.sv := by unfold appendByte; split <;> rfl
@[simp] theorem appendByte_padv (b : Byte) (s : State) : (appendByte b s).padv = s.padv := by unfold appendByte; split <;> rfl
@[simp] theorem appendByte_errcode (b : Byte) (s : State) : (appendByte b s).errcode = s.errcode := by unfold appendByte; split <;> rfl
@[simp] theorem appendByte_din (b : Byte) (s : State) : (appendByte b s).din = s.din := by unfold appendByte; split <;> rfl
@[simp] theorem appendByte_dout (b : Byte) (s : State) : (appendByte b s).dout = s.dout := by unfold appendByte; split <;> rfl
@[simp] theorem appendByte_pad (b : Byte) (s : State) : (appendByte b s).pad = s.pad := by unfold appendByte; split <;> rfl
@[simp] theorem appendByte_slot (b : Byte) (s : State) : (appendByte b s).slot = s.slot := by unfold appendByte; split <;> rfl
@[simp] theorem appendByte_core (b : Byte) (s : State) : (appendByte b s).core = s.core := by unfold appendByte; split <;> rfl
@[simp] theorem appendByte_answered (b : Byte) (s : State) : (appendByte b s).answered = s.answered := by unfold appendByte; split <;> rfl
@[simp] theorem appendByte_events (b : Byte) (s : State) : (appendByte b s).events = s.events := by unfold appendByte; split <;> rfl
@[simp] theorem appendByte_rdata (b : Byte) (s : State) : (appendByte b s).rdata = s.rdata := by unfold appendByte; split <;> rfl
@[simp] theorem appendByte_draws (b : Byte) (s : State) : (appendByte b s).draws = s.draws := by unfold appendByte; split <;> rfl

/-! ### appendBytes: everything but the stream fields -/

@[simp] theorem appendBytes_len (bs : List Byte) (s : State) : (appendBytes bs s).len = s.len := by
  induction bs generalizing s with
  | nil => rfl
  | cons b bs ih => simp [appendBytes, ih]
@[simp] theorem appendBytes_padlen (bs : List Byte) (s : State) : (appendBytes bs s).padlen = s.padlen := by
  induction bs generalizing s with
  | nil => rfl
  | cons b bs ih => simp [appendBytes, ih]
@[simp] theorem appendBytes_diglen (bs : List Byte) (s : State) : (appendBytes bs s).diglen = s.diglen := by
  induction bs generalizing s with
  | nil => rfl
  | cons b bs ih => simp [appendBytes, ih]
@[simp] theorem appendBytes_data (bs : List Byte) (s : State) : (appendBytes bs s).data = s.data := by
  induction bs generalizing s with
  | nil => rfl
  | cons b bs ih => simp [appendBytes, ih]
@[simp] theorem appendBytes_errinfo (bs : List Byte) (s : State) : (appendBytes bs s).errinfo = s.errinfo := by
  induction bs generalizing s with
  | nil => rfl
  | cons b bs ih => simp [appendBytes, ih]
@[simp] theorem appendBytes_err (bs : List Byte) (s : State) : (appendBytes bs s).err = s.err := by
  induction bs generalizing s with
  | nil => rfl
  | cons b bs ih => simp [appendBytes, ih]
@[simp] theorem appendBytes_sv (bs : List Byte) (s : State) : (appendBytes bs s).sv = s.sv := by
  induction bs generalizing s with
  | nil => rfl
  | cons b bs ih => simp [appendBytes, ih]
@[simp] theorem appendBytes_padv (bs : List Byte) (s : State) : (appendBytes bs s).padv = s.padv := by
  induction bs generalizing s with
  | nil => rfl
  | cons b bs ih => simp [appendBytes, ih]
@[simp] theorem appendBytes_errcode (bs : List Byte) (s : State) : (appendBytes bs s).errcode = s.errcode := by
  induction bs generalizing s with
  | nil => rfl
  | cons b bs ih => simp [appendBytes, ih]
@[simp] theorem appendBytes_din (bs : List Byte) (s : State) : (appendBytes bs s).din = s.din := by
  induction bs generalizing s with
  | nil => rfl
  | cons b bs ih => simp [appendBytes, ih]
@[simp] theorem appendBytes_dout (bs : List Byte) (s : State) : (appendBytes bs s).dout = s.dout := by
  induction bs generalizing s with
  | nil => rfl
  | cons b bs ih => simp [appendBytes, ih]
@[simp] theorem appendBytes_pad (bs : List Byte) (s : State) : (appendBytes bs s).pad = s.pad := by
  induction bs generalizing s with
  | nil => rfl
  | cons b bs ih => simp [appendBytes, ih]
@[simp] theorem appendBytes_slot (bs : List Byte) (s : State) : (appendBytes bs s).slot = s.slot := by
  induction bs generalizing s with
  | nil => rfl
  | cons b bs ih => simp [appendBytes, ih]
@[simp] theorem appendBytes_core (bs : List Byte) (s : State) : (appendBytes bs s).core = s.core := by
  induction bs generalizing s with
  | nil => rfl
  | cons b bs ih => simp [appendBytes, ih]
@[simp] theorem appendBytes_answered (bs : List Byte) (s : State) : (appendBytes bs s).answered = s.answered := by
  induction bs generalizing s with
  | nil => rfl
  | cons b bs ih => simp [appendBytes, ih]
@[simp] theorem appendBytes_events (bs : List Byte) (s : State) : (appendBytes bs s).events = s.events := by
  induction bs generalizing s with
  | nil => rfl
  | cons b bs ih => simp [appendBytes, ih]
@[simp] theorem appendBytes_rdata (bs : List Byte) (s : State) : (appendBytes bs s).rdata = s.rdata := by
  induction bs generalizing s with
  | nil => rfl
  | cons b bs ih => simp [appendBytes, ih]
@[simp] theorem appendBytes_draws (bs : List Byte) (s : State) : (appendBytes bs s).draws = s.draws := by
  induction bs generalizing s with
  | nil => rfl
  | cons b bs ih => simp [appendBytes, ih]

end Sys2Proof.Machine
end

