-- ==== Sys2Proof/Laws/Ops.lean ====
section
/-! SUPPORT. For each shared operation, once, everything it can do; and the inversion lemma of exec. -/

namespace Sys2Proof.Machine

theorem State.busy_eq_false_iff (s : State) : s.busy = false ↔ s.slot = none := by
  unfold State.busy
  cases s.slot <;> simp

theorem State.busy_eq_true_iff (s : State) : s.busy = true ↔ s.slot ≠ none := by
  unfold State.busy
  cases s.slot <;> simp

theorem raise_of_err {s : State} (h : s.err = true) (e : ErrorKind) (info : Word) : raise e info s = s := by
  simp [raise, h]

theorem raise_of_noErr {s : State} (h : s.err = false) (e : ErrorKind) (info : Word) :
    raise e info s = { s with err := true, errcode := e.code, errinfo := info } := by
  simp [raise, h]

/-- What an error record can become. -/
theorem raise_cases (e : ErrorKind) (info : Word) (s : State) :
    (s.err = true ∧ raise e info s = s) ∨
      (s.err = false ∧ raise e info s = { s with err := true, errcode := e.code, errinfo := info }) := by
  cases h : s.err
  · exact .inr ⟨rfl, raise_of_noErr h e info⟩
  · exact .inl ⟨rfl, raise_of_err h e info⟩

theorem whenIdle_of_idle {s : State} (h : s.slot = none) (act : State → State) : whenIdle act s = act s := by
  simp [whenIdle, State.busy, h]

theorem whenIdle_of_busy {s : State} (h : s.slot ≠ none) (act : State → State) :
    whenIdle act s = raise .busyViolation 0x00000008 s := by
  simp only [whenIdle, (s.busy_eq_true_iff).2 h, if_true]
  rfl

theorem whenUnlocked_of_err {s : State} (h : s.err = true) (act : State → State) : whenUnlocked act s = s := by
  simp [whenUnlocked, h]

theorem whenUnlocked_of_noErr {s : State} (h : s.err = false) (act : State → State) :
    whenUnlocked act s = act s := by
  simp [whenUnlocked, h]

theorem requireState_of_sv {s : State} (h : s.sv = true) (i : Instr) (act : State → State) :
    requireState i act s = act s := by
  simp [requireState, h]

theorem requireState_of_noSv {s : State} (h : s.sv = false) (i : Instr) (act : State → State) :
    requireState i act s = raise .noState (encode i) s := by
  simp [requireState, h]

/-- Everything the CMD write of a command can do. -/
theorem exec_cases {i : Instr} {s t : State} (h : exec i s = .next t) :
    (i = .softReset ∧ t = resetAll s) ∨
    (i ≠ .softReset ∧ s.slot ≠ none ∧ t = raise .busyViolation 0x00000008 s) ∨
    (i = .nop ∧ s.slot = none ∧ t = s) ∨
    (i = .clrErr ∧ s.slot = none ∧ t = clearError s) ∨
    (s.slot = none ∧ (∃ n, i = .seqPush n ∧ countLegal n = false) ∧ t = raise .illegalCommand (encode i) s) ∨
    (i.isLong = true ∧ s.slot = none ∧ s.err = true ∧ t = s) ∨
    (i = .padGen ∧ s.slot = none ∧ s.err = false ∧
      t = { s with err := true, errcode := 2, errinfo := encode i, padv := false }) ∨
    (i = .stDecode ∧ s.slot = none ∧ s.err = false ∧
      t = { s with err := true, errcode := 1, errinfo := encode i, sv := false }) ∨
    (i.isLong = true ∧ s.slot = none ∧ s.err = false ∧
      (t = { s with err := true, errcode := 6, errinfo := encode i } ∨
        t = { s with err := true, errcode := 7, errinfo := encode i })) ∨
    (i.isLong = true ∧ s.slot = none ∧ s.err = false ∧ IssueChecksHold i s ∧ t = issue i s) := by
  by_cases hb : s.slot = none
  · cases i <;>
      simp only [exec, execNop, execSoftReset, execClrErr, execPadGen, execStDecode, execStEncode, execSeqClear,
        execSeqPush, execSeqFlush, execSeqPushpad, whenIdle_of_idle hb, Host.Outcome.next.injEq] at h <;>
      subst h
    case nop => simp [hb]
    case softReset => simp
    case clrErr => simp [hb]
    case seqPush n =>
      cases hn : countLegal n
      · simp [hb, hn]
      · cases he : s.err <;> cases hs : s.sv <;>
          simp [hb, he, hs, hn, whenUnlocked, requireState, raise, IssueChecksHold, Instr.isLong, ErrorKind.code]
    case padGen =>
      rcases Bool.eq_false_or_eq_true s.err with he | he
      · simp [hb, he, whenUnlocked, Instr.isLong]
      · by_cases hl : lengthLimit ≤ s.len.toNat
        · simp only [whenUnlocked_of_noErr he, if_pos hl, raise_of_noErr he]
          exact .inr (.inr (.inr (.inr (.inr (.inr (.inl ⟨by trivial, hb, he, by trivial⟩))))))
        · simp only [whenUnlocked_of_noErr he, if_neg hl]
          have fits : IssueChecksHold .padGen s := Nat.lt_of_not_le hl
          exact .inr (.inr (.inr (.inr (.inr (.inr (.inr (.inr (.inr ⟨by trivial, hb, he, fits, by trivial⟩))))))))
    case stDecode =>
      cases he : s.err
      · by_cases hl : s.diglen = 32#32 <;>
          simp [hb, he, hl, whenUnlocked, raise, ErrorKind.code, IssueChecksHold, Instr.isLong]
      · simp [hb, he, whenUnlocked, Instr.isLong]
    case seqPushpad =>
      cases he : s.err <;> cases hs : s.sv <;> cases hp : s.padv <;>
        simp [hb, he, hs, hp, whenUnlocked, requireState, raise, IssueChecksHold, Instr.isLong, ErrorKind.code]
    all_goals
      cases he : s.err <;> cases hs : s.sv <;>
        simp [hb, he, hs, whenUnlocked, requireState, raise, IssueChecksHold, Instr.isLong, ErrorKind.code]
  · by_cases hi : i = .softReset
    · subst hi
      simp only [exec, execSoftReset, Host.Outcome.next.injEq] at h
      simp [h]
    · refine .inr (.inl ⟨hi, hb, ?_⟩)
      cases i <;>
        simp_all [exec, execNop, execClrErr, execPadGen, execStDecode, execStEncode, execSeqClear,
          execSeqPush, execSeqFlush, execSeqPushpad, whenIdle_of_busy hb]

/-- exec always answers a next state. -/
theorem exec_next (i : Instr) (s : State) : ∃ t, exec i s = .next t := by
  cases i <;> exact ⟨_, rfl⟩

end Sys2Proof.Machine
end

