-- ==== Sys2Proof/Laws/Bus.lean ====
section
/-! SUPPORT. The host port and the command unit: what reads, writes and abandoned accesses leave unchanged, and the inversion
lemma of a host transaction. -/

namespace Sys2Proof.Machine

/-! ### writeReg: everything but the operands -/

@[simp] theorem writeReg_padlen (r : Reg) (w : Word) (s : State) : (writeReg r w s).padlen = s.padlen := by cases r <;> simp only [writeReg]
@[simp] theorem writeReg_fill (r : Reg) (w : Word) (s : State) : (writeReg r w s).fill = s.fill := by cases r <;> simp only [writeReg]
@[simp] theorem writeReg_blkcnt (r : Reg) (w : Word) (s : State) : (writeReg r w s).blkcnt = s.blkcnt := by cases r <;> simp only [writeReg]
@[simp] theorem writeReg_errinfo (r : Reg) (w : Word) (s : State) : (writeReg r w s).errinfo = s.errinfo := by cases r <;> simp only [writeReg]
@[simp] theorem writeReg_err (r : Reg) (w : Word) (s : State) : (writeReg r w s).err = s.err := by cases r <;> simp only [writeReg]
@[simp] theorem writeReg_sv (r : Reg) (w : Word) (s : State) : (writeReg r w s).sv = s.sv := by cases r <;> simp only [writeReg]
@[simp] theorem writeReg_padv (r : Reg) (w : Word) (s : State) : (writeReg r w s).padv = s.padv := by cases r <;> simp only [writeReg]
@[simp] theorem writeReg_errcode (r : Reg) (w : Word) (s : State) : (writeReg r w s).errcode = s.errcode := by cases r <;> simp only [writeReg]
@[simp] theorem writeReg_dout (r : Reg) (w : Word) (s : State) : (writeReg r w s).dout = s.dout := by cases r <;> simp only [writeReg]
@[simp] theorem writeReg_h (r : Reg) (w : Word) (s : State) : (writeReg r w s).h = s.h := by cases r <;> simp only [writeReg]
@[simp] theorem writeReg_blk (r : Reg) (w : Word) (s : State) : (writeReg r w s).blk = s.blk := by cases r <;> simp only [writeReg]
@[simp] theorem writeReg_pad (r : Reg) (w : Word) (s : State) : (writeReg r w s).pad = s.pad := by cases r <;> simp only [writeReg]
@[simp] theorem writeReg_slot (r : Reg) (w : Word) (s : State) : (writeReg r w s).slot = s.slot := by cases r <;> simp only [writeReg]
@[simp] theorem writeReg_core (r : Reg) (w : Word) (s : State) : (writeReg r w s).core = s.core := by cases r <;> simp only [writeReg]
@[simp] theorem writeReg_answered (r : Reg) (w : Word) (s : State) : (writeReg r w s).answered = s.answered := by cases r <;> simp only [writeReg]
@[simp] theorem writeReg_events (r : Reg) (w : Word) (s : State) : (writeReg r w s).events = s.events := by cases r <;> simp only [writeReg]
@[simp] theorem writeReg_rdata (r : Reg) (w : Word) (s : State) : (writeReg r w s).rdata = s.rdata := by cases r <;> simp only [writeReg]
@[simp] theorem writeReg_draws (r : Reg) (w : Word) (s : State) : (writeReg r w s).draws = s.draws := by cases r <;> simp only [writeReg]

/-! ### hostRead: everything but the read data and the draws -/

@[simp] theorem hostRead_len (r : Reg) (s : State) : (hostRead r s).len = s.len := by unfold hostRead; split <;> rfl
@[simp] theorem hostRead_padlen (r : Reg) (s : State) : (hostRead r s).padlen = s.padlen := by unfold hostRead; split <;> rfl
@[simp] theorem hostRead_diglen (r : Reg) (s : State) : (hostRead r s).diglen = s.diglen := by unfold hostRead; split <;> rfl
@[simp] theorem hostRead_data (r : Reg) (s : State) : (hostRead r s).data = s.data := by unfold hostRead; split <;> rfl
@[simp] theorem hostRead_fill (r : Reg) (s : State) : (hostRead r s).fill = s.fill := by unfold hostRead; split <;> rfl
@[simp] theorem hostRead_blkcnt (r : Reg) (s : State) : (hostRead r s).blkcnt = s.blkcnt := by unfold hostRead; split <;> rfl
@[simp] theorem hostRead_errinfo (r : Reg) (s : State) : (hostRead r s).errinfo = s.errinfo := by unfold hostRead; split <;> rfl
@[simp] theorem hostRead_err (r : Reg) (s : State) : (hostRead r s).err = s.err := by unfold hostRead; split <;> rfl
@[simp] theorem hostRead_sv (r : Reg) (s : State) : (hostRead r s).sv = s.sv := by unfold hostRead; split <;> rfl
@[simp] theorem hostRead_padv (r : Reg) (s : State) : (hostRead r s).padv = s.padv := by unfold hostRead; split <;> rfl
@[simp] theorem hostRead_errcode (r : Reg) (s : State) : (hostRead r s).errcode = s.errcode := by unfold hostRead; split <;> rfl
@[simp] theorem hostRead_din (r : Reg) (s : State) : (hostRead r s).din = s.din := by unfold hostRead; split <;> rfl
@[simp] theorem hostRead_dout (r : Reg) (s : State) : (hostRead r s).dout = s.dout := by unfold hostRead; split <;> rfl
@[simp] theorem hostRead_h (r : Reg) (s : State) : (hostRead r s).h = s.h := by unfold hostRead; split <;> rfl
@[simp] theorem hostRead_blk (r : Reg) (s : State) : (hostRead r s).blk = s.blk := by unfold hostRead; split <;> rfl
@[simp] theorem hostRead_pad (r : Reg) (s : State) : (hostRead r s).pad = s.pad := by unfold hostRead; split <;> rfl
@[simp] theorem hostRead_slot (r : Reg) (s : State) : (hostRead r s).slot = s.slot := by unfold hostRead; split <;> rfl
@[simp] theorem hostRead_core (r : Reg) (s : State) : (hostRead r s).core = s.core := by unfold hostRead; split <;> rfl
@[simp] theorem hostRead_answered (r : Reg) (s : State) : (hostRead r s).answered = s.answered := by unfold hostRead; split <;> rfl
@[simp] theorem hostRead_events (r : Reg) (s : State) : (hostRead r s).events = s.events := by unfold hostRead; split <;> rfl

/-! ### badAccess: everything but the error fields and the read data -/

@[simp] theorem badAccess_len (t : Transaction) (s : State) : (badAccess t s).len = s.len := by unfold badAccess; split <;> simp
@[simp] theorem badAccess_padlen (t : Transaction) (s : State) : (badAccess t s).padlen = s.padlen := by unfold badAccess; split <;> simp
@[simp] theorem badAccess_diglen (t : Transaction) (s : State) : (badAccess t s).diglen = s.diglen := by unfold badAccess; split <;> simp
@[simp] theorem badAccess_data (t : Transaction) (s : State) : (badAccess t s).data = s.data := by unfold badAccess; split <;> simp
@[simp] theorem badAccess_fill (t : Transaction) (s : State) : (badAccess t s).fill = s.fill := by unfold badAccess; split <;> simp
@[simp] theorem badAccess_blkcnt (t : Transaction) (s : State) : (badAccess t s).blkcnt = s.blkcnt := by unfold badAccess; split <;> simp
@[simp] theorem badAccess_sv (t : Transaction) (s : State) : (badAccess t s).sv = s.sv := by unfold badAccess; split <;> simp
@[simp] theorem badAccess_padv (t : Transaction) (s : State) : (badAccess t s).padv = s.padv := by unfold badAccess; split <;> simp
@[simp] theorem badAccess_din (t : Transaction) (s : State) : (badAccess t s).din = s.din := by unfold badAccess; split <;> simp
@[simp] theorem badAccess_dout (t : Transaction) (s : State) : (badAccess t s).dout = s.dout := by unfold badAccess; split <;> simp
@[simp] theorem badAccess_h (t : Transaction) (s : State) : (badAccess t s).h = s.h := by unfold badAccess; split <;> simp
@[simp] theorem badAccess_blk (t : Transaction) (s : State) : (badAccess t s).blk = s.blk := by unfold badAccess; split <;> simp
@[simp] theorem badAccess_pad (t : Transaction) (s : State) : (badAccess t s).pad = s.pad := by unfold badAccess; split <;> simp
@[simp] theorem badAccess_slot (t : Transaction) (s : State) : (badAccess t s).slot = s.slot := by unfold badAccess; split <;> simp
@[simp] theorem badAccess_core (t : Transaction) (s : State) : (badAccess t s).core = s.core := by unfold badAccess; split <;> simp
@[simp] theorem badAccess_answered (t : Transaction) (s : State) : (badAccess t s).answered = s.answered := by unfold badAccess; split <;> simp
@[simp] theorem badAccess_events (t : Transaction) (s : State) : (badAccess t s).events = s.events := by unfold badAccess; split <;> simp
@[simp] theorem badAccess_draws (t : Transaction) (s : State) : (badAccess t s).draws = s.draws := by unfold badAccess; split <;> simp

/-! ### Inversion -/

theorem cmdWrite_cases {w : Word} {s t : State} (h : cmdWrite w s = .next t) :
    (∃ i, decode w = .ok i ∧ exec i s = .next t) ∨
      (∃ why, decode w = .reject why ∧ t = whenIdle (raise .illegalCommand w) s) := by
  unfold cmdWrite at h
  split at h
  · next i hi => exact .inl ⟨i, hi, h⟩
  · next why hw =>
    cases h
    exact .inr ⟨why, hw, rfl⟩

theorem hostWrite_of_ne_cmd {r : Reg} (h : r ≠ .cmd) (w : Word) (s : State) :
    hostWrite r w s = .next (if s.busy then raise .busyViolation (zextOffset r.offset) s else writeReg r w s) := by
  cases r <;> first | rfl | exact absurd rfl h

/-- Everything a host transaction can do. -/
theorem hostTransaction_cases {tr : Transaction} {s t : State} (h : hostTransaction tr s = .next t) :
    ((∀ r, checkAccess tr ≠ .reaches r) ∧ t = badAccess tr s) ∨
    (∃ r, checkAccess tr = .reaches r ∧ tr.kind = .read ∧ t = hostRead r s) ∨
    (∃ w, checkAccess tr = .reaches .cmd ∧ tr.kind = .write w ∧ cmdWrite w s = .next t) ∨
    (∃ r w, checkAccess tr = .reaches r ∧ r ≠ .cmd ∧ tr.kind = .write w ∧
      ((s.slot ≠ none ∧ t = raise .busyViolation (zextOffset r.offset) s) ∨ (s.slot = none ∧ t = writeReg r w s))) := by
  unfold hostTransaction at h
  split at h
  · next r hr =>
    split at h
    · next hk =>
      cases h
      exact .inr (.inl ⟨r, hr, hk, rfl⟩)
    · next w hk =>
      by_cases hc : r = .cmd
      · subst hc
        exact .inr (.inr (.inl ⟨w, hr, hk, h⟩))
      · rw [hostWrite_of_ne_cmd hc] at h
        cases h
        refine .inr (.inr (.inr ⟨r, w, hr, hc, hk, ?_⟩))
        by_cases hb : s.slot = none
        · exact .inr ⟨hb, by simp [(s.busy_eq_false_iff).2 hb]⟩
        · exact .inl ⟨hb, by simp [(s.busy_eq_true_iff).2 hb]⟩
  all_goals
    next hv =>
      cases h
      exact .inl ⟨fun r hr => by simp [hv] at hr, rfl⟩

theorem completionStep_of_empty {s : State} (h : s.slot = none) : completionStep s = s := by
  simp [completionStep, h]

@[simp] theorem served_of_empty {s : State} (h : s.slot = none) : served s = true := by
  simp [served, h]

theorem served_of_slot {s : State} {i : Instr} (h : s.slot = some i) :
    served s = decide ((coreRequests i s).length ≤ s.answered) := by
  simp [served, h]

/-- Everything a `complete` event can do: nothing, or retire the command in flight, all of whose requests are answered. -/
theorem takeCompletion_cases (s : State) :
    takeCompletion s = s ∨ ∃ i, s.slot = some i ∧ served s = true ∧ takeCompletion s = retire (completionEffect i s) := by
  unfold takeCompletion
  split
  · next h =>
    cases hs : s.slot with
    | none => exact .inl (by simp [completionStep, hs])
    | some i => exact .inr ⟨i, rfl, h, by simp [completionStep, hs]⟩
  · exact .inl rfl

/-- Everything a `coreRequest` event can do. -/
theorem sendRequest_cases (s : State) :
    sendRequest s = s ∨ ∃ i r, s.slot = some i ∧ s.core = none ∧ (coreRequests i s)[s.answered]? = some r ∧
      sendRequest s = { s with core := some r } := by
  unfold sendRequest
  split
  · next i hs hc =>
    split
    · next r hr => exact .inr ⟨i, r, hs, hc, hr, rfl⟩
    · exact .inl rfl
  · exact .inl rfl

/-- Everything a `coreAnswer` event can do. -/
theorem acceptAnswer_cases (s : State) :
    acceptAnswer s = s ∨ ∃ r, s.core = some r ∧ acceptAnswer s = { s with core := none, answered := s.answered + 1 } := by
  unfold acceptAnswer
  split
  · next r hr => exact .inr ⟨r, hr, rfl⟩
  · exact .inl rfl

theorem completionStep_of_slot {s : State} {i : Instr} (h : s.slot = some i) :
    completionStep s = retire (completionEffect i s) := by
  simp [completionStep, h]

end Sys2Proof.Machine
end

