-- ==== Sys2Proof/Laws/Decode.lean ====
section
/-! SUPPORT. Small lemmas about the fields of a command word and about the decoder. -/

namespace Sys2Proof

theorem word_toNat_fields (w : Word) :
    w.toNat = (opField w).toNat + (nField w).toNat * 2 ^ 8 + (rsvField w).toNat * 2 ^ 11 := by
  simp only [opField, nField, rsvField, BitVec.extractLsb'_toNat, Nat.shiftRight_eq_div_pow]
  have := w.isLt
  omega

/-- A word is its three fields. -/
theorem word_ext_fields {v w : Word} (op : opField v = opField w) (n : nField v = nField w)
    (rsv : rsvField v = rsvField w) : v = w := by
  apply BitVec.eq_of_toNat_eq
  rw [word_toNat_fields v, word_toNat_fields w, op, n, rsv]

/-- The opcode map and opcodeOf agree: a command named by an opcode has that opcode, and its count is N if it is SEQ_PUSH. -/
theorem commandOfOpcode_some {op : BitVec 8} {n : BitVec 3} {i : Instr} (h : commandOfOpcode op n = some i) :
    opcodeOf i = op ∧ ∀ m, i = .seqPush m → m = n := by
  unfold commandOfOpcode at h
  split_ifs at h <;> cases h <;> simp_all [opcodeOf]

/-- What the decoder accepts: the fields of an accepted word. -/
theorem decode_ok_fields {w : Word} {i : Instr} (h : decode w = .ok i) :
    commandOfOpcode (opField w) (nField w) = some i ∧ rsvField w = 0 ∧ i.wf = true ∧ nField w = countOf i := by
  unfold decode at h
  split at h
  · cases h
  · next n heq =>
    split_ifs at h with hr hc
    cases h
    exact ⟨heq, by simpa using hr, hc, ((commandOfOpcode_some heq).2 n rfl).symm⟩
  · next j hne heq =>
    split_ifs at h with hz
    cases h
    simp only [not_or, not_not] at hz
    cases i <;> simp_all [Instr.wf, countOf]

end Sys2Proof
end

