-- ==== Sys2Proof/Laws/Operands.lean ====
section
/-! SUPPORT. Small lemmas about the byte conversions of host words, and about the length that LOADDIG writes. -/

namespace Sys2Proof.Machine

theorem fromLanes_toNat (b0 b1 b2 b3 : Byte) :
    (fromLanes b0 b1 b2 b3).toNat = b0.toNat + b1.toNat * 0x100 + b2.toNat * 0x10000 + b3.toNat * 0x1000000 := by
  have := b0.isLt; have := b1.isLt; have := b2.isLt; have := b3.isLt
  rw [fromLanes, BitVec.toNat_ofNat]; omega

/-- The lanes of a word are its bytes in base 256. -/
theorem lane_of_toNat (w : Word) (b0 b1 b2 b3 : Byte)
    (h : w.toNat = b0.toNat + b1.toNat * 0x100 + b2.toNat * 0x10000 + b3.toNat * 0x1000000) :
    lane w 0 = b0 ∧ lane w 1 = b1 ∧ lane w 2 = b2 ∧ lane w 3 = b3 := by
  have := b0.isLt; have := b1.isLt; have := b2.isLt; have := b3.isLt
  refine ⟨?_, ?_, ?_, ?_⟩ <;>
  · apply BitVec.eq_of_toNat_eq
    rw [lane, BitVec.extractLsb'_toNat, Nat.shiftRight_eq_div_pow]
    omega

/-- `LANES` undoes `fromLANES` (R18). -/
theorem lane_fromLanes (b0 b1 b2 b3 : Byte) :
    lane (fromLanes b0 b1 b2 b3) 0 = b0 ∧ lane (fromLanes b0 b1 b2 b3) 1 = b1 ∧ lane (fromLanes b0 b1 b2 b3) 2 = b2 ∧
      lane (fromLanes b0 b1 b2 b3) 3 = b3 :=
  lane_of_toNat _ _ _ _ _ (fromLanes_toNat b0 b1 b2 b3)

/-- DIGLEN after a LOADDIG is 32 exactly for a digest of 32 bytes, however long it is (R110, R213). -/
theorem digestLength_eq_32 (d : List Byte) : digestLength d = 32 ↔ d.length = 32 := by
  rw [digestLength, ← BitVec.toNat_inj, BitVec.toNat_ofNat]
  have : (32 : Word).toNat = 32 := rfl
  omega

end Sys2Proof.Machine
end

