-- ==== Sys2Proof/Laws/PerInstr.lean ====
section
/-! SUPPORT. The family EncodeFields: the fields of each command's word (spec 30_encoding.md R100, R101). -/

namespace Sys2Proof.Laws.EncodeFields

/-- The word of a command has its opcode in OP, its count in N, and RSV = 0. -/
def Statement (i : Instr) : Prop :=
  opField (encode i) = opcodeOf i ∧ nField (encode i) = countOf i ∧ rsvField (encode i) = 0

theorem nop : Statement .nop := by unfold Statement; decide

theorem softReset : Statement .softReset := by unfold Statement; decide

theorem clrErr : Statement .clrErr := by unfold Statement; decide

theorem padGen : Statement .padGen := by unfold Statement; decide

theorem stDecode : Statement .stDecode := by unfold Statement; decide

theorem stEncode : Statement .stEncode := by unfold Statement; decide

theorem seqClear : Statement .seqClear := by unfold Statement; decide

theorem seqPush (n : BitVec 3) : Statement (.seqPush n) := by unfold Statement; revert n; decide

theorem seqFlush : Statement .seqFlush := by unfold Statement; decide

theorem seqPushpad : Statement .seqPushpad := by unfold Statement; decide

end Sys2Proof.Laws.EncodeFields
end

