-- ==== Sys2Proof/Laws/Unit.lean ====
section
/-! SUPPORT. What the completion of each long command leaves unchanged and what it writes, field by field. -/

namespace Sys2Proof.Machine

/-! ### completePadGen -/

@[simp] theorem completePadGen_len (s : State) : (completePadGen s).len = s.len := by simp only [completePadGen]
@[simp] theorem completePadGen_padlen (s : State) : (completePadGen s).padlen = BitVec.ofNat 32 (padding s.len.toNat).length := by simp only [completePadGen]
@[simp] theorem completePadGen_diglen (s : State) : (completePadGen s).diglen = s.diglen := by simp only [completePadGen]
@[simp] theorem completePadGen_data (s : State) : (completePadGen s).data = s.data := by simp only [completePadGen]
@[simp] theorem completePadGen_fill (s : State) : (completePadGen s).fill = s.fill := by simp only [completePadGen]
@[simp] theorem completePadGen_blkcnt (s : State) : (completePadGen s).blkcnt = s.blkcnt := by simp only [completePadGen]
@[simp] theorem completePadGen_errinfo (s : State) : (completePadGen s).errinfo = s.errinfo := by simp only [completePadGen]
@[simp] theorem completePadGen_err (s : State) : (completePadGen s).err = s.err := by simp only [completePadGen]
@[simp] theorem completePadGen_sv (s : State) : (completePadGen s).sv = s.sv := by simp only [completePadGen]
@[simp] theorem completePadGen_padv (s : State) : (completePadGen s).padv = true := by simp only [completePadGen]
@[simp] theorem completePadGen_errcode (s : State) : (completePadGen s).errcode = s.errcode := by simp only [completePadGen]
@[simp] theorem completePadGen_din (s : State) : (completePadGen s).din = s.din := by simp only [completePadGen]
@[simp] theorem completePadGen_dout (s : State) : (completePadGen s).dout = s.dout := by simp only [completePadGen]
@[simp] theorem completePadGen_h (s : State) : (completePadGen s).h = s.h := by simp only [completePadGen]
@[simp] theorem completePadGen_blk (s : State) : (completePadGen s).blk = s.blk := by simp only [completePadGen]
@[simp] theorem completePadGen_pad (s : State) : (completePadGen s).pad = Vector.ofFn fun j => (padding s.len.toNat).getD j.val 0 := by simp only [completePadGen]
@[simp] theorem completePadGen_slot (s : State) : (completePadGen s).slot = s.slot := by simp only [completePadGen]
@[simp] theorem completePadGen_core (s : State) : (completePadGen s).core = s.core := by simp only [completePadGen]
@[simp] theorem completePadGen_answered (s : State) : (completePadGen s).answered = s.answered := by simp only [completePadGen]
@[simp] theorem completePadGen_events (s : State) : (completePadGen s).events = s.events := by simp only [completePadGen]
@[simp] theorem completePadGen_rdata (s : State) : (completePadGen s).rdata = s.rdata := by simp only [completePadGen]
@[simp] theorem completePadGen_draws (s : State) : (completePadGen s).draws = s.draws := by simp only [completePadGen]

/-! ### completeStDecode -/

@[simp] theorem completeStDecode_len (s : State) : (completeStDecode s).len = s.len := by simp only [completeStDecode, sequencerClear]
@[simp] theorem completeStDecode_padlen (s : State) : (completeStDecode s).padlen = s.padlen := by simp only [completeStDecode, sequencerClear]
@[simp] theorem completeStDecode_diglen (s : State) : (completeStDecode s).diglen = s.diglen := by simp only [completeStDecode, sequencerClear]
@[simp] theorem completeStDecode_data (s : State) : (completeStDecode s).data = s.data := by simp only [completeStDecode, sequencerClear]
@[simp] theorem completeStDecode_fill (s : State) : (completeStDecode s).fill = 0 := by simp only [completeStDecode, sequencerClear]
@[simp] theorem completeStDecode_blkcnt (s : State) : (completeStDecode s).blkcnt = 0 := by simp only [completeStDecode, sequencerClear]
@[simp] theorem completeStDecode_errinfo (s : State) : (completeStDecode s).errinfo = s.errinfo := by simp only [completeStDecode, sequencerClear]
@[simp] theorem completeStDecode_err (s : State) : (completeStDecode s).err = s.err := by simp only [completeStDecode, sequencerClear]
@[simp] theorem completeStDecode_sv (s : State) : (completeStDecode s).sv = true := by simp only [completeStDecode, sequencerClear]
@[simp] theorem completeStDecode_padv (s : State) : (completeStDecode s).padv = s.padv := by simp only [completeStDecode, sequencerClear]
@[simp] theorem completeStDecode_errcode (s : State) : (completeStDecode s).errcode = s.errcode := by simp only [completeStDecode, sequencerClear]
@[simp] theorem completeStDecode_din (s : State) : (completeStDecode s).din = s.din := by simp only [completeStDecode, sequencerClear]
@[simp] theorem completeStDecode_dout (s : State) : (completeStDecode s).dout = s.dout := by simp only [completeStDecode, sequencerClear]
@[simp] theorem completeStDecode_h (s : State) : (completeStDecode s).h = decodeState s.din := by simp only [completeStDecode, sequencerClear]
@[simp] theorem completeStDecode_blk (s : State) : (completeStDecode s).blk = Vector.replicate 64 0 := by simp only [completeStDecode, sequencerClear]
@[simp] theorem completeStDecode_pad (s : State) : (completeStDecode s).pad = s.pad := by simp only [completeStDecode, sequencerClear]
@[simp] theorem completeStDecode_slot (s : State) : (completeStDecode s).slot = s.slot := by simp only [completeStDecode, sequencerClear]
@[simp] theorem completeStDecode_core (s : State) : (completeStDecode s).core = s.core := by simp only [completeStDecode, sequencerClear]
@[simp] theorem completeStDecode_answered (s : State) : (completeStDecode s).answered = s.answered := by simp only [completeStDecode, sequencerClear]
@[simp] theorem completeStDecode_events (s : State) : (completeStDecode s).events = s.events := by simp only [completeStDecode, sequencerClear]
@[simp] theorem completeStDecode_rdata (s : State) : (completeStDecode s).rdata = s.rdata := by simp only [completeStDecode, sequencerClear]
@[simp] theorem completeStDecode_draws (s : State) : (completeStDecode s).draws = s.draws := by simp only [completeStDecode, sequencerClear]

/-! ### completeStEncode -/

@[simp] theorem completeStEncode_len (s : State) : (completeStEncode s).len = s.len := by simp only [completeStEncode]
@[simp] theorem completeStEncode_padlen (s : State) : (completeStEncode s).padlen = s.padlen := by simp only [completeStEncode]
@[simp] theorem completeStEncode_diglen (s : State) : (completeStEncode s).diglen = s.diglen := by simp only [completeStEncode]
@[simp] theorem completeStEncode_data (s : State) : (completeStEncode s).data = s.data := by simp only [completeStEncode]
@[simp] theorem completeStEncode_fill (s : State) : (completeStEncode s).fill = s.fill := by simp only [completeStEncode]
@[simp] theorem completeStEncode_blkcnt (s : State) : (completeStEncode s).blkcnt = s.blkcnt := by simp only [completeStEncode]
@[simp] theorem completeStEncode_errinfo (s : State) : (completeStEncode s).errinfo = s.errinfo := by simp only [completeStEncode]
@[simp] theorem completeStEncode_err (s : State) : (completeStEncode s).err = s.err := by simp only [completeStEncode]
@[simp] theorem completeStEncode_sv (s : State) : (completeStEncode s).sv = s.sv := by simp only [completeStEncode]
@[simp] theorem completeStEncode_padv (s : State) : (completeStEncode s).padv = s.padv := by simp only [completeStEncode]
@[simp] theorem completeStEncode_errcode (s : State) : (completeStEncode s).errcode = s.errcode := by simp only [completeStEncode]
@[simp] theorem completeStEncode_din (s : State) : (completeStEncode s).din = s.din := by simp only [completeStEncode]
@[simp] theorem completeStEncode_dout (s : State) : (completeStEncode s).dout = encodeState s.h := by simp only [completeStEncode]
@[simp] theorem completeStEncode_h (s : State) : (completeStEncode s).h = s.h := by simp only [completeStEncode]
@[simp] theorem completeStEncode_blk (s : State) : (completeStEncode s).blk = s.blk := by simp only [completeStEncode]
@[simp] theorem completeStEncode_pad (s : State) : (completeStEncode s).pad = s.pad := by simp only [completeStEncode]
@[simp] theorem completeStEncode_slot (s : State) : (completeStEncode s).slot = s.slot := by simp only [completeStEncode]
@[simp] theorem completeStEncode_core (s : State) : (completeStEncode s).core = s.core := by simp only [completeStEncode]
@[simp] theorem completeStEncode_answered (s : State) : (completeStEncode s).answered = s.answered := by simp only [completeStEncode]
@[simp] theorem completeStEncode_events (s : State) : (completeStEncode s).events = s.events := by simp only [completeStEncode]
@[simp] theorem completeStEncode_rdata (s : State) : (completeStEncode s).rdata = s.rdata := by simp only [completeStEncode]
@[simp] theorem completeStEncode_draws (s : State) : (completeStEncode s).draws = s.draws := by simp only [completeStEncode]

/-! ### completeSeqClear -/

@[simp] theorem completeSeqClear_len (s : State) : (completeSeqClear s).len = s.len := rfl
@[simp] theorem completeSeqClear_padlen (s : State) : (completeSeqClear s).padlen = s.padlen := rfl
@[simp] theorem completeSeqClear_diglen (s : State) : (completeSeqClear s).diglen = s.diglen := rfl
@[simp] theorem completeSeqClear_data (s : State) : (completeSeqClear s).data = s.data := rfl
@[simp] theorem completeSeqClear_fill (s : State) : (completeSeqClear s).fill = 0 := rfl
@[simp] theorem completeSeqClear_blkcnt (s : State) : (completeSeqClear s).blkcnt = 0 := rfl
@[simp] theorem completeSeqClear_errinfo (s : State) : (completeSeqClear s).errinfo = s.errinfo := rfl
@[simp] theorem completeSeqClear_err (s : State) : (completeSeqClear s).err = s.err := rfl
@[simp] theorem completeSeqClear_sv (s : State) : (completeSeqClear s).sv = s.sv := rfl
@[simp] theorem completeSeqClear_padv (s : State) : (completeSeqClear s).padv = s.padv := rfl
@[simp] theorem completeSeqClear_errcode (s : State) : (completeSeqClear s).errcode = s.errcode := rfl
@[simp] theorem completeSeqClear_din (s : State) : (completeSeqClear s).din = s.din := rfl
@[simp] theorem completeSeqClear_dout (s : State) : (completeSeqClear s).dout = s.dout := rfl
@[simp] theorem completeSeqClear_h (s : State) : (completeSeqClear s).h = s.h := rfl
@[simp] theorem completeSeqClear_blk (s : State) : (completeSeqClear s).blk = Vector.replicate 64 0 := rfl
@[simp] theorem completeSeqClear_pad (s : State) : (completeSeqClear s).pad = s.pad := rfl
@[simp] theorem completeSeqClear_slot (s : State) : (completeSeqClear s).slot = s.slot := rfl
@[simp] theorem completeSeqClear_core (s : State) : (completeSeqClear s).core = s.core := rfl
@[simp] theorem completeSeqClear_answered (s : State) : (completeSeqClear s).answered = s.answered := rfl
@[simp] theorem completeSeqClear_events (s : State) : (completeSeqClear s).events = s.events := rfl
@[simp] theorem completeSeqClear_rdata (s : State) : (completeSeqClear s).rdata = s.rdata := rfl
@[simp] theorem completeSeqClear_draws (s : State) : (completeSeqClear s).draws = s.draws := rfl

/-! ### completeSeqPush -/

@[simp] theorem completeSeqPush_len (n : BitVec 3) (s : State) : (completeSeqPush n s).len = s.len := by simp [completeSeqPush]
@[simp] theorem completeSeqPush_padlen (n : BitVec 3) (s : State) : (completeSeqPush n s).padlen = s.padlen := by simp [completeSeqPush]
@[simp] theorem completeSeqPush_diglen (n : BitVec 3) (s : State) : (completeSeqPush n s).diglen = s.diglen := by simp [completeSeqPush]
@[simp] theorem completeSeqPush_data (n : BitVec 3) (s : State) : (completeSeqPush n s).data = s.data := by simp [completeSeqPush]
@[simp] theorem completeSeqPush_errinfo (n : BitVec 3) (s : State) : (completeSeqPush n s).errinfo = s.errinfo := by simp [completeSeqPush]
@[simp] theorem completeSeqPush_err (n : BitVec 3) (s : State) : (completeSeqPush n s).err = s.err := by simp [completeSeqPush]
@[simp] theorem completeSeqPush_sv (n : BitVec 3) (s : State) : (completeSeqPush n s).sv = s.sv := by simp [completeSeqPush]
@[simp] theorem completeSeqPush_padv (n : BitVec 3) (s : State) : (completeSeqPush n s).padv = s.padv := by simp [completeSeqPush]
@[simp] theorem completeSeqPush_errcode (n : BitVec 3) (s : State) : (completeSeqPush n s).errcode = s.errcode := by simp [completeSeqPush]
@[simp] theorem completeSeqPush_din (n : BitVec 3) (s : State) : (completeSeqPush n s).din = s.din := by simp [completeSeqPush]
@[simp] theorem completeSeqPush_dout (n : BitVec 3) (s : State) : (completeSeqPush n s).dout = s.dout := by simp [completeSeqPush]
@[simp] theorem completeSeqPush_pad (n : BitVec 3) (s : State) : (completeSeqPush n s).pad = s.pad := by simp [completeSeqPush]
@[simp] theorem completeSeqPush_slot (n : BitVec 3) (s : State) : (completeSeqPush n s).slot = s.slot := by simp [completeSeqPush]
@[simp] theorem completeSeqPush_core (n : BitVec 3) (s : State) : (completeSeqPush n s).core = s.core := by simp [completeSeqPush]
@[simp] theorem completeSeqPush_answered (n : BitVec 3) (s : State) : (completeSeqPush n s).answered = s.answered := by simp [completeSeqPush]
@[simp] theorem completeSeqPush_events (n : BitVec 3) (s : State) : (completeSeqPush n s).events = s.events := by simp [completeSeqPush]
@[simp] theorem completeSeqPush_rdata (n : BitVec 3) (s : State) : (completeSeqPush n s).rdata = s.rdata := by simp [completeSeqPush]
@[simp] theorem completeSeqPush_draws (n : BitVec 3) (s : State) : (completeSeqPush n s).draws = s.draws := by simp [completeSeqPush]

/-! ### completeSeqFlush -/

@[simp] theorem completeSeqFlush_len (s : State) : (completeSeqFlush s).len = s.len := by unfold completeSeqFlush; split <;> simp
@[simp] theorem completeSeqFlush_padlen (s : State) : (completeSeqFlush s).padlen = s.padlen := by unfold completeSeqFlush; split <;> simp
@[simp] theorem completeSeqFlush_diglen (s : State) : (completeSeqFlush s).diglen = s.diglen := by unfold completeSeqFlush; split <;> simp
@[simp] theorem completeSeqFlush_data (s : State) : (completeSeqFlush s).data = s.data := by unfold completeSeqFlush; split <;> simp
@[simp] theorem completeSeqFlush_errinfo (s : State) : (completeSeqFlush s).errinfo = s.errinfo := by unfold completeSeqFlush; split <;> simp
@[simp] theorem completeSeqFlush_err (s : State) : (completeSeqFlush s).err = s.err := by unfold completeSeqFlush; split <;> simp
@[simp] theorem completeSeqFlush_sv (s : State) : (completeSeqFlush s).sv = s.sv := by unfold completeSeqFlush; split <;> simp
@[simp] theorem completeSeqFlush_padv (s : State) : (completeSeqFlush s).padv = s.padv := by unfold completeSeqFlush; split <;> simp
@[simp] theorem completeSeqFlush_errcode (s : State) : (completeSeqFlush s).errcode = s.errcode := by unfold completeSeqFlush; split <;> simp
@[simp] theorem completeSeqFlush_din (s : State) : (completeSeqFlush s).din = s.din := by unfold completeSeqFlush; split <;> simp
@[simp] theorem completeSeqFlush_dout (s : State) : (completeSeqFlush s).dout = s.dout := by unfold completeSeqFlush; split <;> simp
@[simp] theorem completeSeqFlush_pad (s : State) : (completeSeqFlush s).pad = s.pad := by unfold completeSeqFlush; split <;> simp
@[simp] theorem completeSeqFlush_slot (s : State) : (completeSeqFlush s).slot = s.slot := by unfold completeSeqFlush; split <;> simp
@[simp] theorem completeSeqFlush_core (s : State) : (completeSeqFlush s).core = s.core := by unfold completeSeqFlush; split <;> simp
@[simp] theorem completeSeqFlush_answered (s : State) : (completeSeqFlush s).answered = s.answered := by unfold completeSeqFlush; split <;> simp
@[simp] theorem completeSeqFlush_events (s : State) : (completeSeqFlush s).events = s.events := by unfold completeSeqFlush; split <;> simp
@[simp] theorem completeSeqFlush_rdata (s : State) : (completeSeqFlush s).rdata = s.rdata := by unfold completeSeqFlush; split <;> simp
@[simp] theorem completeSeqFlush_draws (s : State) : (completeSeqFlush s).draws = s.draws := by unfold completeSeqFlush; split <;> simp

/-! ### completeSeqPushpad -/

@[simp] theorem completeSeqPushpad_len (s : State) : (completeSeqPushpad s).len = s.len := by simp [completeSeqPushpad]
@[simp] theorem completeSeqPushpad_padlen (s : State) : (completeSeqPushpad s).padlen = s.padlen := by simp [completeSeqPushpad]
@[simp] theorem completeSeqPushpad_diglen (s : State) : (completeSeqPushpad s).diglen = s.diglen := by simp [completeSeqPushpad]
@[simp] theorem completeSeqPushpad_data (s : State) : (completeSeqPushpad s).data = s.data := by simp [completeSeqPushpad]
@[simp] theorem completeSeqPushpad_errinfo (s : State) : (completeSeqPushpad s).errinfo = s.errinfo := by simp [completeSeqPushpad]
@[simp] theorem completeSeqPushpad_err (s : State) : (completeSeqPushpad s).err = s.err := by simp [completeSeqPushpad]
@[simp] theorem completeSeqPushpad_sv (s : State) : (completeSeqPushpad s).sv = s.sv := by simp [completeSeqPushpad]
@[simp] theorem completeSeqPushpad_padv (s : State) : (completeSeqPushpad s).padv = s.padv := by simp [completeSeqPushpad]
@[simp] theorem completeSeqPushpad_errcode (s : State) : (completeSeqPushpad s).errcode = s.errcode := by simp [completeSeqPushpad]
@[simp] theorem completeSeqPushpad_din (s : State) : (completeSeqPushpad s).din = s.din := by simp [completeSeqPushpad]
@[simp] theorem completeSeqPushpad_dout (s : State) : (completeSeqPushpad s).dout = s.dout := by simp [completeSeqPushpad]
@[simp] theorem completeSeqPushpad_pad (s : State) : (completeSeqPushpad s).pad = s.pad := by simp [completeSeqPushpad]
@[simp] theorem completeSeqPushpad_slot (s : State) : (completeSeqPushpad s).slot = s.slot := by simp [completeSeqPushpad]
@[simp] theorem completeSeqPushpad_core (s : State) : (completeSeqPushpad s).core = s.core := by simp [completeSeqPushpad]
@[simp] theorem completeSeqPushpad_answered (s : State) : (completeSeqPushpad s).answered = s.answered := by simp [completeSeqPushpad]
@[simp] theorem completeSeqPushpad_events (s : State) : (completeSeqPushpad s).events = s.events := by simp [completeSeqPushpad]
@[simp] theorem completeSeqPushpad_rdata (s : State) : (completeSeqPushpad s).rdata = s.rdata := by simp [completeSeqPushpad]
@[simp] theorem completeSeqPushpad_draws (s : State) : (completeSeqPushpad s).draws = s.draws := by simp [completeSeqPushpad]

/-! ### The requests of a command -/

/-- What an appended byte makes of H, BLK and FILL depends on those three alone. -/
theorem appendByte_congr {s t : State} (hh : s.h = t.h) (hb : s.blk = t.blk) (hf : s.fill = t.fill) (b : Byte) :
    (appendByte b s).h = (appendByte b t).h ∧ (appendByte b s).blk = (appendByte b t).blk ∧
      (appendByte b s).fill = (appendByte b t).fill := by
  have hs : (storeByte b s).fill = (storeByte b t).fill := by simp [hf]
  unfold appendByte
  rw [hs]
  split_ifs <;> simp [hh, hb, hf]

theorem appendRequests_congr (bs : List Byte) {s t : State} (hh : s.h = t.h) (hb : s.blk = t.blk) (hf : s.fill = t.fill) :
    appendRequests bs s = appendRequests bs t := by
  induction bs generalizing s t with
  | nil => rfl
  | cons b bs ih =>
    obtain ⟨h1, h2, h3⟩ := appendByte_congr hh hb hf b
    have hs : (storeByte b s).fill = (storeByte b t).fill ∧ (storeByte b s).blk = (storeByte b t).blk := by simp [hb, hf]
    simp only [appendRequests, hs.1, hs.2, hh, ih h1 h2 h3]

/-- The requests of a command depend only on the stream and on its operands. -/
theorem coreRequests_congr (i : Instr) {s t : State} (hh : s.h = t.h) (hb : s.blk = t.blk) (hf : s.fill = t.fill)
    (hd : s.data = t.data) (hp : s.pad = t.pad) (hl : s.padlen = t.padlen) : coreRequests i s = coreRequests i t := by
  cases i <;> simp only [coreRequests, pushedBytes, paddingBytes, hd, hp, hl, appendRequests_congr _ hh hb hf, hh, hb, hf]

end Sys2Proof.Machine
end

