-- ==== Sys2Proof/Tests/Slice0.lean ====
section
/-! SUPPORT. Tests: well-formedness, decoding of words written out from spec/30_encoding.md, one step of each command with
values from spec/95_test_vectors.md, and for each statement that has hypotheses a state that meets them. -/

namespace Sys2Proof.Tests

open Sys2Proof Sys2Proof.Machine

/-! ### Well-formedness -/

theorem test_wf_refuses_push_0 : (Instr.seqPush 0).wf = false := by decide
theorem test_wf_refuses_push_5 : (Instr.seqPush 5).wf = false := by decide
theorem test_wf_refuses_push_6 : (Instr.seqPush 6).wf = false := by decide
theorem test_wf_refuses_push_7 : (Instr.seqPush 7).wf = false := by decide
theorem test_wf_accepts_push_1_to_4 : (List.map (fun n => (Instr.seqPush n).wf) [1, 2, 3, 4]) = [true, true, true, true] := by decide

/-! ### Decoding (R101, R102, R107; V-SEQ-8, V-CTL-2) -/

theorem test_decode_nop : decode 0b00000000000000000000000000000000 = .ok .nop := by decide
theorem test_decode_softReset : decode 0b00000000000000000000000000000001 = .ok .softReset := by decide
theorem test_decode_clrErr : decode 0b00000000000000000000000000000010 = .ok .clrErr := by decide
theorem test_decode_padGen : decode 0b00000000000000000000000000010000 = .ok .padGen := by decide
theorem test_decode_stDecode : decode 0b00000000000000000000000000100000 = .ok .stDecode := by decide
theorem test_decode_stEncode : decode 0b00000000000000000000000000100001 = .ok .stEncode := by decide
theorem test_decode_seqClear : decode 0b00000000000000000000000000110000 = .ok .seqClear := by decide
theorem test_decode_seqPush : decode 0b00000000000000000000001100110001 = .ok (.seqPush 3) := by decide
theorem test_decode_seqFlush : decode 0b00000000000000000000000000110010 = .ok .seqFlush := by decide
theorem test_decode_seqPushpad : decode 0b00000000000000000000000000110011 = .ok .seqPushpad := by decide
theorem test_decode_rejects_opcode_03 : decode 0x00000003 = .reject .reservedOpcode := by decide
theorem test_decode_rejects_opcode_34 : decode 0x00000034 = .reject .reservedOpcode := by decide
theorem test_decode_rejects_nearly_reset : decode 0x00000101 = .reject .reservedBits := by decide
theorem test_decode_rejects_high_bit : decode 0x80000001 = .reject .reservedBits := by decide
theorem test_decode_rejects_push_rsv : decode 0x00000931 = .reject .reservedBits := by decide
theorem test_decode_rejects_push_0 : decode 0x00000031 = .reject .badCount := by decide
theorem test_decode_rejects_push_5 : decode 0x00000531 = .reject .badCount := by decide
theorem test_table_word : decodeTableWord 32 0x00000431 = some (.seqPush 4) := by decide
theorem test_table_word_short : decodeTableWord 8 0x33 = some .seqPushpad := by decide

/-! ### Small states -/

/-- A view of the next state. -/
def nextView {α : Type} (o : Host.Outcome State Fault Refusal) (view : State → α) : Option α :=
  match o with
  | .next t => some (view t)
  | .fault _ => none
  | .refused _ => none

/-- A view of the state after the step that runs the command word. -/
def afterCommand {α : Type} (w : Nat) (s : State) (view : State → α) : Option α := nextView (step (s.withFetchWord 32 w)) view

/-- STATUS and ERRINFO. -/
def record (s : State) : Word × Word := (readReg .status s, readReg .errinfo s)

/-- A decoded state with a valid padding, nothing in flight. -/
def ready : State := { State.reset with sv := true, padv := true, padlen := 72, diglen := 32, data := 0xDDCCBBAA }

/-- A state with a recorded NO_STATE error. -/
def locked : State := { State.reset with err := true, errcode := 6, errinfo := 0x00000021 }

/-- An ST_ENCODE in flight. -/
def encoding : State := { ready with slot := some .stEncode }

/-- A SEQ_FLUSH of the one byte 0x61 in flight. -/
def flushing : State :=
  { State.reset with sv := true, fill := 1, blk := (Vector.replicate 64 0).set 0 0x61, slot := some .seqFlush }

/-! ### One step of each command -/

/-- V-CTL-1. -/
theorem test_nop_with_err : afterCommand 0x00000000 locked record = some (0x00000062, 0x00000021) := by decide
theorem test_nop_while_busy : afterCommand 0x00000000 encoding record = some (0x0000004F, 0x00000008) := by decide
/-- V-CTL-2, and the worked example of R191. -/
theorem test_soft_reset_while_busy : afterCommand 0x00000001 encoding (fun t => (record t, readReg .padlen t)) = some ((0, 0), 0) := by decide
theorem test_nearly_soft_reset : afterCommand 0x00000101 State.reset record = some (0x00000032, 0x00000101) := by decide
/-- V-CTL-3: STATUS 0x26 becomes 0x04. -/
theorem test_clr_err : afterCommand 0x00000002 { State.reset with err := true, sv := true, errcode := 2, errinfo := 0x10 } record =
    some (0x00000004, 0x00000000) := by decide
/-- V-PAD-4. -/
theorem test_pad_gen_overflow : afterCommand 0x00000010 { ready with len := 0x2000000000000000 } record =
    some (0x00000026, 0x00000010) := by decide
/-- V-PAD-3, LEN = 56: the word at 0x144 and PADLEN. -/
theorem test_pad_gen_56 : (let t := completePadGen { State.reset with len := 56 }
    (readReg (.pad 0) t, readReg (.pad 16) t, readReg (.pad 17) t, t.padlen)) = (0x00000080, 0, 0xC0010000, 72) := by decide
/-- V-COD-4, the transaction of P3 that reads STATUS 0x12. -/
theorem test_st_decode_malformed : afterCommand 0x00000020 { State.reset with sv := true, diglen := 31 } record =
    some (0x00000012, 0x00000020) := by decide
/-- V-MEM-3: DIN word 0 written as 0x44332211 decodes to H[0] = 0x11223344. -/
theorem test_st_decode_lanes : readReg (.h 0) (completeStDecode (writeReg (.din 0) 0x44332211 State.reset)) = 0x11223344 := by decide
/-- V-COD-5. -/
theorem test_st_encode_no_state : afterCommand 0x00000021 State.reset record = some (0x00000062, 0x00000021) := by decide
/-- V-COD-2, words 0 and 6. -/
theorem test_st_encode : (let t := completeStEncode { ready with h := #v[0x01234567, 0x89ABCDEF, 0, 0xFFFFFFFF, 0x80000000, 1, 0xDEADBEEF, 0x00FF00FF] }
    (readReg (.dout 0) t, readReg (.dout 6) t)) = (0x67452301, 0xEFBEADDE) := by decide
/-- R164's worked example. -/
theorem test_seq_clear : (let t := completeSeqClear { ready with fill := 3, blkcnt := 5 }; (t.fill, t.blkcnt, t.sv)) = (0, 0, true) := by decide
theorem test_seq_clear_issues : afterCommand 0x00000030 State.reset record = some (0x00000001, 0) := by decide
/-- V-SEQ-1. -/
theorem test_seq_push_3 : (let t := completeSeqPush 3 ready; (readReg (.blk 0) t, t.fill, t.blkcnt)) = (0x00CCBBAA, 3, 0) := by decide
/-- V-SEQ-2: the bytes after the 64th begin the next block. -/
theorem test_seq_push_boundary : (let t := completeSeqPush 4 { ready with fill := 62 }
    (readReg (.blk 0) t, t.fill, t.blkcnt)) = (0x0000DDCC, 2, 1) := by decide
/-- V-SEQ-8. -/
theorem test_seq_push_illegal : afterCommand 0x00000931 ready record = some (0x0000003E, 0x00000931) := by decide
/-- V-SEQ-4. -/
theorem test_seq_flush_empty : (let t := completeSeqFlush ready; (t.fill, t.blkcnt)) = (0, 0) := by decide
/-- V-SEQ-9. -/
theorem test_seq_flush_wraps : (let t := completeSeqFlush { ready with fill := 1, blkcnt := 0xFFFFFFFF }; (t.fill, t.blkcnt)) = (0, 0) := by decide
/-- V-ERR-4. -/
theorem test_seq_pushpad_no_pad : afterCommand 0x00000033 { ready with padv := false } record = some (0x00000076, 0x00000033) := by decide
/-- V-SEQ-7, third case: nine bytes of padding on an empty stream. -/
theorem test_seq_pushpad_short : (let t := completeSeqPushpad { ready with padlen := 9 }; (t.fill, t.blkcnt)) = (9, 0) := by decide

/-! ### The host port -/

/-- V-MEM-1. -/
theorem test_read_id : nextView (hostTransaction (readWord 0x000) ready) State.rdata = some 0x4D445831 := by decide
/-- V-MEM-2. -/
theorem test_read_cmd : nextView (hostTransaction (readWord 0x008) State.reset) (fun t => (t.rdata, record t)) = some (0, 0x00000052, 0x00000008) := by decide
theorem test_read_misaligned : nextView (hostTransaction (readWord 0x042) State.reset) record = some (0x00000052, 0x00000042) := by decide
theorem test_write_half : nextView (hostTransaction ⟨.write 0xFFFFFFFF, 0x040, .half⟩ State.reset) (fun t => (record t, readReg (.din 0) t)) =
    some ((0x00000052, 0x00000040), 0) := by decide
/-- V-ERR-1. -/
theorem test_first_error_wins : nextView (hostTransaction (readWord 0x008) locked) record = some (0x00000062, 0x00000021) := by decide
/-- V-ERR-2. -/
theorem test_busy_before_no_state : nextView (hostTransaction (writeWord 0x008 0x21) { encoding with sv := false }) record =
    some (0x0000004B, 0x00000008) := by decide
/-- R110: CHECK goes to the label fail of R211, with ERRCODE and ERRINFO. -/
theorem test_check_fails : (match hostCheck.run locked with
    | .failed code info _ => some (code, info)
    | .returned _ _ => none
    | .stopped => none) = some (6, 0x00000021) := by decide

/-! ### Witnesses: the hypotheses of each statement can be met -/

theorem witness_DecodeAndEncodeAgree :
    ((Instr.seqPush 1).wf = true ∧ (Instr.seqPush 4).wf = true) ∧ decode 0x00000431 = .ok (.seqPush 4) := by decide

theorem witness_ExactlyTheLegalWordsDecode : LegalWord 0x00000131 ∧ LegalWord 0x00000033 ∧ ¬ LegalWord 0x00000531 ∧
    ¬ LegalWord 0x00000101 ∧ State.reset.slot = none := by
  unfold LegalWord; decide

theorem witness_StepRunsTheDecodedCommand : decode 0x00000010 = .ok .padGen ∧
    (State.reset.withFetchWord 32 0x00000010).events = .host (cmdTransaction 0x00000010) :: [] := by decide

theorem witness_StepTakesTheNextEvent : State.reset.events = [] ∧
    (({ encoding with events := [.complete] } : State).events = .complete :: [] ∧ encoding.slot = some .stEncode ∧
      (coreRequests .stEncode encoding).length ≤ encoding.answered) ∧
    (({ flushing with events := [.complete] } : State).events = .complete :: [] ∧ flushing.slot = some .seqFlush ∧
      flushing.answered < (coreRequests .seqFlush flushing).length) ∧
    (({ ready with events := [.complete] } : State).events = .complete :: [] ∧ ready.slot = none) ∧
    ({ ready with events := [.reset] } : State).events = .reset :: [] := by decide

theorem witness_ResetStateIsZero : Reg.status ≠ .id ∧ Reg.status ≠ .version := by decide

theorem witness_NopChangesNothing : locked.slot = none ∧ encoding.slot ≠ none ∧
    (0x00000100 : Word).extractLsb' 0 8 = 0 ∧ (0x00000100 : Word).extractLsb' 8 24 ≠ 0 := by decide

theorem witness_PadGenComputesThePadding :
    (let s : State := { ready with len := 0x1FFFFFFFFFFFFFFF }; s.slot = none ∧ s.err = false ∧ s.len.toNat < 2 ^ 61) := by decide

theorem witness_StDecodeLoadsTheState : ready.slot = none ∧ ready.err = false ∧ ready.diglen = 32 := by decide

theorem witness_StEncodeSerialisesTheState : ready.slot = none ∧ ready.err = false ∧ ready.sv = true := by decide

theorem witness_SeqClearDiscardsTheStream : State.reset.slot = none ∧ State.reset.err = false := by decide

theorem witness_SeqPushAppendsDataLanes : ready.slot = none ∧ ready.err = false ∧ ready.sv = true ∧
    (1 ≤ (1 : BitVec 3).toNat ∧ (1 : BitVec 3).toNat ≤ 4) ∧ 1 ≤ (4 : BitVec 3).toNat ∧ (4 : BitVec 3).toNat ≤ 4 := by decide

theorem witness_SeqFlushCompressesAPartialBlock : ready.slot = none ∧ ready.err = false ∧ ready.sv = true ∧ ready.fill = 0 ∧
    ({ ready with fill := 63 } : State).fill ≠ 0 := by decide

theorem witness_SeqPushpadAppendsThePadding : ready.slot = none ∧ ready.err = false ∧ ready.sv = true ∧ ready.padv = true ∧
    ready.padlen.toNat = 72 := by decide

theorem witness_AppendedByteFillsOrCompresses : ({ ready with fill := 62 } : State).fill.toNat < 63 ∧
    ({ ready with fill := 63 } : State).fill.toNat = 63 := by decide

theorem witness_MalformedDigestClearsSv : ({ ready with diglen := 31 } : State).diglen ≠ 32 ∧
    ({ ready with diglen := 33 } : State).diglen ≠ 32 ∧ ready.slot = none ∧ ready.err = false := by decide

theorem witness_LengthOverflowClearsPadv :
    (let s : State := { ready with len := 0x2000000000000000 }; s.slot = none ∧ s.err = false ∧ 2 ^ 61 ≤ s.len.toNat) := by decide

theorem witness_NoStateThenNoPad : (State.reset.slot = none ∧ State.reset.err = false ∧ State.reset.sv = false) ∧
    countLegal 1 = true ∧ countLegal 4 = true ∧
    (let s : State := { ready with padv := false }; s.slot = none ∧ s.err = false ∧ s.sv = true ∧ s.padv = false) := by decide

theorem witness_IllegalCountIsRejected : State.reset.slot = none ∧ locked.slot = none := by decide

theorem witness_LockDropsLongCommands : locked.slot = none ∧ locked.err = true ∧ (Instr.seqPush 4).wf = true ∧
    (Instr.seqPush 4).isLong = true ∧ (Reg.din 7).access = .rw ∧ Reg.status ≠ .cmd := by decide

theorem witness_FirstErrorIsKept : locked.err = true ∧ State.reset.err = false := by decide

/-- Each clause at the ends of its range. -/
theorem witness_BadAccessesAreAbandoned :
    (⟨.read, 0x00C, .byte⟩ : Transaction).size ≠ .word ∧ (0x00E : Offset).toNat % 4 ≠ 0 ∧
    (0x030 ≤ (0x030 : Offset).toNat ∧ (0x03C : Offset).toNat < 0x040) ∧ (0x0A0 ≤ (0x0A0 : Offset).toNat ∧ (0x0BC : Offset).toNat < 0x0C0) ∧
    (0x148 ≤ (0x148 : Offset).toNat ∧ 0x148 ≤ (0x1FC : Offset).toNat) ∧ (readWord 0x008).kind = .read ∧
    (writeWord 0x060 0).kind ≠ .read ∧ (0x09C : Offset).toNat < 0x0A0 ∧ 0x0C0 ≤ (0x0C0 : Offset).toNat ∧ (0x144 : Offset).toNat < 0x148 := by
  decide

theorem witness_AddressMapIsOneToOne : ((0x144 : Offset).toNat % 4 = 0 ∧ regAt 0x144 = some (.pad 17)) ∧
    (0x1FC : Offset).toNat % 4 = 0 ∧ regAt 0x1FC = none := by decide

theorem witness_RwWritesStoreTheirValue : ready.slot = none := by decide

theorem witness_ReadsAreExactAndSilent : Reg.din 0 ≠ .cmd ∧ encoding.slot = some .stEncode ∧
    unspecifiedDuring .stEncode (.din 0) = false := by decide

theorem witness_InFlightResultsReadUnspecified : encoding.slot = some .stEncode ∧ unspecifiedDuring .stEncode (.dout 7) = true := by
  decide

theorem witness_WritesWhileBusyAreDropped : encoding.slot ≠ none ∧ (0x00000101 : Word) ≠ 0x00000001 ∧
    (0x040 ≤ (0x040 : Offset).toNat ∧ (0x05C : Offset).toNat < 0x060 ∧ (0x05C : Offset).toNat % 4 = 0) := by decide

theorem witness_BufferWordsReadBack : (7 : Fin 8) ≠ 0 := by decide

/-- V-PAD-2 at the ends of the domain, and both clauses of R124 (e) where they meet. -/
theorem witness_PaddingHasItsProperties : (55 < 2 ^ 61 ∧ 55 % 64 ≤ 55 ∧ (padding 55).length = 9) ∧
    (56 < 2 ^ 61 ∧ 56 ≤ 56 % 64 ∧ (padding 56).length = 72) ∧ (0x1FFFFFFFFFFFFFFF < 2 ^ 61 ∧ (padding 0x1FFFFFFFFFFFFFFF).length = 65) := by
  decide

theorem witness_ForgedDigestIsTheHash : resumeOffset [0x4D] (List.replicate 16 (0x53 : Byte)).length + [0x41].length < 2 ^ 61 := by decide

/-- V-FORGE-2: the guesses 16 and 17 with a message of 22 bytes. -/
theorem witness_ResumeOffsetDecidesTheForgery :
    resumeOffset (List.replicate 22 0x6D) 16 = 64 ∧ resumeOffset (List.replicate 22 0x6D) 17 = 64 := by decide

theorem not_reset {e : Event} (h : e ≠ .reset) (h' : e ≠ .host (cmdTransaction 0x00000001)) : ¬ e.isReset :=
  fun r => r.elim h h'

theorem absorbed_one : Absorbed (Vector.replicate 8 0) [0x61] flushing := by
  refine ⟨by decide, by decide, by decide, by decide⟩

theorem witness_CommandsComputeExtend : ({ ready with slot := some .stDecode } : State).slot = some .stDecode ∧
    ({ ready with slot := some .seqClear } : State).slot = some .seqClear ∧
    (Absorbed (Vector.replicate 8 0) [0x61] { flushing with slot := some (.seqPush 4) }) ∧
    (Absorbed (Vector.replicate 8 0) [0x61] { flushing with slot := some .seqPushpad }) ∧
    Absorbed (Vector.replicate 8 0) [0x61] flushing ∧ flushing.slot = some .seqFlush :=
  ⟨rfl, rfl, ⟨absorbed_one.1, absorbed_one.2, absorbed_one.3, absorbed_one.4⟩,
    ⟨absorbed_one.1, absorbed_one.2, absorbed_one.3, absorbed_one.4⟩, absorbed_one, rfl⟩

theorem flushing_inv : Inv flushing := by
  refine ⟨by decide, by decide, .inl rfl, ?_, by decide, ?_, ?_, ?_, ?_, ?_⟩
  · intro h; cases h
  · intro h; cases h
  · intro i h; cases h; rfl
  · intro h; cases h
  · intro i _; exact Nat.zero_le _
  · intro i r _ h'; cases h'

/-- A request outstanding: the invariant with a command in flight. -/
def requesting : State := { flushing with core := some ⟨flushing.h, flushing.blk⟩ }

theorem requesting_inv : Inv requesting :=
  { flushing_inv with
    core_idle := fun h => by cases h
    answered_le := fun _ _ => Nat.zero_le _
    core_next := fun i r h h' => by cases h; cases h'; rfl }

/-- A valid padding, of the length 55, and an event to come. -/
def padded : State := { completePadGen { State.reset with len := 55 } with events := [.coreRequest] }

theorem padded_inv : Inv padded := by
  refine ⟨by decide, by decide, by decide, ?_, by decide, ?_, ?_, ?_, ?_, ?_⟩
  · intro _; exact ⟨55, by decide, by decide, by decide⟩
  · intro h; cases h
  · intro i h; cases h
  · intro _; exact ⟨rfl, rfl⟩
  · intro i h; cases h
  · intro i r h; cases h

theorem witness_ClrErrClearsTheRecord : locked.slot = none ∧ (encoding.slot ≠ none ∧ encoding.err = false) ∧
    ({ encoding with err := true } : State).err = true ∧ Inv padded ∧ padded.slot = none ∧ padded.err = false :=
  ⟨rfl, ⟨by decide, rfl⟩, rfl, padded_inv, rfl, rfl⟩

theorem witness_CompressionsAreBounded : Inv requesting ∧ countLegal 4 = true := ⟨requesting_inv, by decide⟩

/-- V-SEQ-7, second case: two requests of one SEQ_PUSHPAD. -/
theorem witness_RequestsChainThroughTheCore : (coreRequests .seqPushpad { ready with fill := 56 }).length = 2 ∧
    coreRequests .seqFlush ready = [] := by decide

theorem witness_CorePortHoldsOneRequest : (flushing.slot = some .seqFlush ∧ flushing.core = none ∧
      (coreRequests .seqFlush flushing)[flushing.answered]? = some ⟨flushing.h, flushing.blk⟩) ∧
    (encoding.slot = some .stEncode ∧ (coreRequests .stEncode encoding)[encoding.answered]? = none) ∧
    ready.slot = none ∧ requesting.core = some ⟨flushing.h, flushing.blk⟩ := ⟨⟨rfl, rfl, rfl⟩, ⟨rfl, rfl⟩, rfl, rfl⟩

theorem witness_EveryStepKeepsTheInvariant : Inv padded ∧ ∃ t, step padded = .next t := ⟨padded_inv, _, rfl⟩

theorem witness_CmdWriteFrame : Instr.padGen ≠ .softReset ∧ ∃ t, exec .padGen ready = .next t := ⟨by decide, _, rfl⟩

theorem witness_StreamCompletionFrame : flushing.slot = some .seqFlush := rfl

/-- A status read comes while a command is in flight. -/
theorem witness_InFlightCommandIsUndisturbed : ∃ t, ({ encoding with events := [.host (readWord 0x00C)] } : State).slot ≠ none ∧
    Event.host (readWord 0x00C) ≠ .complete ∧ ¬ (Event.host (readWord 0x00C)).isReset ∧
    step { encoding with events := [.host (readWord 0x00C)] } = .next t := by
  exact ⟨_, by decide, by decide, not_reset (by decide) (by decide), rfl⟩

/-- The completion of an ST_ENCODE that changes DOUT. -/
theorem witness_ResultsHaveOneWriter : ∃ t, step { encoding with h := Vector.replicate 8 1, events := [.complete] } = .next t ∧
    ¬ Event.complete.isReset ∧ t.dout ≠ encoding.dout := by
  exact ⟨_, rfl, not_reset (by decide) (by decide), by decide⟩

/-- A write of DATA. -/
theorem witness_OnlyTheHostWritesOperands : ∃ t, step { State.reset with events := [.host (writeWord 0x020 1)] } = .next t ∧
    ¬ (Event.host (writeWord 0x020 1)).isReset ∧ t.data ≠ State.reset.data := by
  exact ⟨_, rfl, not_reset (by decide) (by decide), by decide⟩

theorem witness_ErrorIsStickyUntilCleared : ∃ t, locked.err = true ∧ step { locked with events := [.host (readWord 0x008)] } = .next t ∧
    ¬ (Event.host (readWord 0x008)).isReset ∧ Event.host (readWord 0x008) ≠ .host (cmdTransaction 0x00000002) := by
  exact ⟨_, rfl, rfl, not_reset (by decide) (by decide), by decide⟩

/-- Each of the four changes happens. -/
theorem witness_ValidityBitsHaveOneSetter :
    nextView (step { State.reset with slot := some .stDecode, events := [.complete] }) State.sv = some true ∧
    nextView (step { State.reset with slot := some .padGen, events := [.complete] }) State.padv = some true ∧
    nextView (step ({ ready with diglen := 0 }.withFetchWord 32 0x20)) State.sv = some false ∧
    nextView (step ({ ready with len := 0x2000000000000000 }.withFetchWord 32 0x10)) State.padv = some false := by decide

theorem witness_UndecodedStateNeverLeaves : Inv padded ∧ padded.sv = false ∧ padded.events = .coreRequest :: [] ∧
    ∃ t, step padded = .next t := ⟨padded_inv, rfl, rfl, _, rfl⟩

/-- A status read while busy, a write of DIN and a command word: each keeps the duties. -/
theorem witness_DutifulHostMeetsOnlyCommandErrors : encoding.err = false ∧ Dutiful (readWord 0x00C) encoding ∧
    Dutiful (writeWord 0x05C 7) ready ∧ Dutiful (writeWord 0x008 0x00000431) ready ∧ Dutiful (writeWord 0x008 0x00000001) encoding := by
  refine ⟨rfl, ⟨.status, rfl, rfl, by decide, rfl⟩, ⟨.din 7, rfl, rfl, .inr (by decide)⟩, ⟨.cmd, rfl, rfl, .inl ⟨rfl, .inr ⟨rfl, ?_⟩⟩⟩,
    ⟨.cmd, rfl, rfl, .inl ⟨rfl, .inl rfl⟩⟩⟩
  unfold LegalWord; decide

theorem witness_AnsweredCommandCompletes : flushing.slot = some .seqFlush ∧ flushing.core = none ∧ flushing.answered = 0 ∧
    (coreRequests .seqFlush flushing).length = 1 := ⟨rfl, rfl, rfl, rfl⟩

/-- A `complete` event comes before the core's answer. -/
theorem witness_CompletionWaitsForTheCore : ∃ t, flushing.slot = some .seqFlush ∧
    flushing.answered < (coreRequests .seqFlush flushing).length ∧ Event.complete ≠ .coreAnswer ∧ ¬ Event.complete.isReset ∧
    step { flushing with events := [.complete] } = .next t :=
  ⟨_, rfl, by decide, by decide, not_reset (by decide) (by decide), rfl⟩

/-- A run in which the core answers the one request of the command in flight, which then completes, and nothing happens
afterwards. -/
def shortRun : Nat → State
  | 0 => { flushing with events := [.coreRequest, .coreAnswer, .complete] }
  | 1 => { requesting with events := [.coreAnswer, .complete] }
  | 2 => { flushing with answered := 1, events := [.complete] }
  | _ + 3 => retire (completeSeqFlush { flushing with answered := 1 })

theorem shortRun_is_run : IsRun shortRun
  | 0 => rfl
  | 1 => rfl
  | 2 => rfl
  | _ + 3 => rfl

theorem shortRun_no_abort (m : Nat) : ¬ AbortAt shortRun m := by
  rintro ⟨⟨e, he, hr⟩, hc⟩
  match m with
  | 0 => exact hc rfl
  | 1 => cases he; exact not_reset (by decide) (by decide) hr
  | 2 => exact hc rfl
  | _ + 3 => exact hc rfl

theorem shortRun_core_responds : CoreResponds shortRun := by
  refine ⟨fun k hk => ?_, id, fun m h => absurd h (shortRun_no_abort m), fun m _ h => absurd h (shortRun_no_abort m)⟩
  match k with
  | 0 => exact absurd rfl hk
  | 1 => exact ⟨1, Nat.le_refl _, .inl rfl, fun j h h' => by rw [Nat.le_antisymm h' h]; exact hk⟩
  | 2 => exact absurd rfl hk
  | _ + 3 => exact absurd rfl hk

theorem shortRun_unit_goes_on : UnitGoesOn shortRun := by
  intro k hs hc
  match k with
  | 0 => exact ⟨0, Nat.le_refl _, .inr (.inl ⟨rfl, rfl, rfl⟩)⟩
  | 1 => cases hc
  | 2 => exact ⟨2, Nat.le_refl _, .inl ⟨rfl, rfl⟩⟩
  | _ + 3 => exact absurd rfl hs

theorem witness_InFlightCommandEndsOnItsOperands : IsRun shortRun ∧ CoreResponds shortRun ∧ UnitGoesOn shortRun ∧
    Inv (shortRun 0) ∧ (shortRun 0).slot = some .seqFlush :=
  ⟨shortRun_is_run, shortRun_core_responds, shortRun_unit_goes_on,
    { flushing_inv with answered_le := fun _ _ => Nat.zero_le _, core_next := fun _ _ _ h => by cases h }, rfl⟩

end Sys2Proof.Tests
end

section
/-! The command in flight: which host writes are resets, and what every event that neither completes the command nor resets the
machine leaves unchanged while BUSY = 1 (R235, R275, R278). -/

namespace Sys2Proof.Machine

/-! ### Host writes of CMD -/

theorem encode_fields (i : Instr) : Laws.EncodeFields.Statement i := by
  cases i with
  | nop => exact Laws.EncodeFields.nop
  | softReset => exact Laws.EncodeFields.softReset
  | clrErr => exact Laws.EncodeFields.clrErr
  | padGen => exact Laws.EncodeFields.padGen
  | stDecode => exact Laws.EncodeFields.stDecode
  | stEncode => exact Laws.EncodeFields.stEncode
  | seqClear => exact Laws.EncodeFields.seqClear
  | seqPush n => exact Laws.EncodeFields.seqPush n
  | seqFlush => exact Laws.EncodeFields.seqFlush
  | seqPushpad => exact Laws.EncodeFields.seqPushpad

/-- A word that decodes is the word of its command, since no other word has its three fields. -/
theorem encode_of_decode {w : Word} {i : Instr} (h : decode w = .ok i) : encode i = w := by
  obtain ⟨hop, hrsv, -, hn⟩ := decode_ok_fields h
  obtain ⟨eop, en, ersv⟩ := encode_fields i
  exact word_ext_fields (eop.trans (commandOfOpcode_some hop).1) (en.trans hn.symm) (ersv.trans hrsv.symm)

theorem offset_of_regAt_cmd {off : Offset} (h : regAt off = some .cmd) : off = Reg.cmd.offset := by
  simp only [regAt, ite_eq_iff, dite_eq_iff, Option.some.injEq, reduceCtorEq, and_false, exists_false, false_or, or_false,
    and_true] at h
  obtain ⟨-, -, hcmd⟩ := h
  exact BitVec.eq_of_toNat_eq hcmd

theorem checkAccess_reaches {tr : Transaction} {r : Reg} (h : checkAccess tr = .reaches r) :
    tr.size = .word ∧ regAt tr.off = some r := by
  unfold checkAccess at h
  split_ifs at h with hsize
  split at h
  · cases h
  · next r' hr =>
    split_ifs at h
    cases h
    exact ⟨not_not.1 hsize, hr⟩

/-- The one transaction that presents a word to CMD is its aligned 4-byte write at CMD's offset. -/
theorem eq_cmdTransaction_of_reaches {tr : Transaction} {w : Word} (h : checkAccess tr = .reaches .cmd)
    (hk : tr.kind = .write w) : tr = cmdTransaction w := by
  obtain ⟨hsize, hreg⟩ := checkAccess_reaches h
  obtain ⟨kind, off, size⟩ := tr
  cases hk
  cases hsize
  cases offset_of_regAt_cmd hreg
  rfl

/-! ### What an event leaves of the command in flight -/

/-- The command in flight, its operands and all results are in `t` as they are in `s`: the two differ at most in the error fields
and (model) in the core port, the host port and the events to come. -/
def InFlightKept (s t : State) : Prop :=
  t = { s with err := t.err, errcode := t.errcode, errinfo := t.errinfo, core := t.core, answered := t.answered,
               rdata := t.rdata, draws := t.draws, events := t.events }

theorem InFlightKept.refl (s : State) : InFlightKept s s := rfl

theorem InFlightKept.trans {s t u : State} (hst : InFlightKept s t) (htu : InFlightKept t u) : InFlightKept s u :=
  Eq.trans htu (by rw [hst])

theorem InFlightKept.slot_eq {s t : State} (h : InFlightKept s t) : t.slot = s.slot := by
  rw [show t = _ from h]

/-- R55: the operands of the command, and what it computes on. -/
theorem InFlightKept.operands_eq {s t : State} (h : InFlightKept s t) :
    t.len = s.len ∧ t.diglen = s.diglen ∧ t.din = s.din ∧ t.data = s.data ∧ t.pad = s.pad ∧ t.padlen = s.padlen ∧
      t.h = s.h ∧ t.blk = s.blk ∧ t.fill = s.fill ∧ t.sv = s.sv ∧ t.padv = s.padv := by
  rw [show t = _ from h]
  simp only [and_self]

/-- The requests of a command are computed from what stays while it is in flight. -/
theorem InFlightKept.coreRequests_eq {s t : State} (h : InFlightKept s t) (i : Instr) : coreRequests i t = coreRequests i s := by
  obtain ⟨-, -, -, data, pad, padlen, state, blk, fill, -, -⟩ := h.operands_eq
  exact coreRequests_congr i state blk fill data pad padlen

theorem InFlightKept.of_events (s : State) (es : List Event) : InFlightKept s { s with events := es } := rfl

@[simp] theorem served_events (s : State) (es : List Event) : served { s with events := es } = served s := by
  unfold served
  simp only [(InFlightKept.of_events s es).coreRequests_eq]

theorem InFlightKept.of_raise (e : ErrorKind) (info : Word) (s : State) : InFlightKept s (raise e info s) := by
  rcases raise_cases e info s with ⟨-, h⟩ | ⟨-, h⟩ <;> rw [h] <;> rfl

theorem InFlightKept.of_badAccess (tr : Transaction) (s : State) : InFlightKept s (badAccess tr s) := by
  unfold badAccess
  split
  · exact (InFlightKept.of_raise _ _ s).trans rfl
  · exact InFlightKept.of_raise _ _ s

theorem InFlightKept.of_hostRead (r : Reg) (s : State) : InFlightKept s (hostRead r s) := by
  unfold hostRead
  split <;> rfl

/-- While BUSY = 1 every command but SOFT_RESET is a busy violation (R278). -/
theorem exec_of_busy {i : Instr} {s t : State} (hs : s.slot ≠ none) (hi : i ≠ .softReset) (h : exec i s = .next t) :
    t = raise .busyViolation 0x00000008 s := by
  rcases exec_cases h with ⟨hreset, -⟩ | ⟨-, -, ht⟩ | ⟨-, idle, -⟩ | ⟨-, idle, -⟩ | ⟨idle, -⟩ | ⟨-, idle, -⟩ |
    ⟨-, idle, -⟩ | ⟨-, idle, -⟩ | ⟨-, idle, -⟩ | ⟨-, idle, -⟩
  · exact absurd hreset hi
  · exact ht
  all_goals exact absurd idle hs

/-- While BUSY = 1 a word written to CMD other than SOFT_RESET's is a busy violation, legal or not (R104, R278). -/
theorem cmdWrite_of_busy {w : Word} {s t : State} (hs : s.slot ≠ none) (hw : w ≠ 0x00000001) (h : cmdWrite w s = .next t) :
    t = raise .busyViolation 0x00000008 s := by
  rcases cmdWrite_cases h with ⟨i, hi, hexec⟩ | ⟨_, -, ht⟩
  · refine exec_of_busy hs ?_ hexec
    rintro rfl
    exact hw (encode_of_decode hi).symm
  · exact ht.trans (whenIdle_of_busy hs _)

/-- While BUSY = 1 the host disturbs the command in flight by SOFT_RESET only. -/
theorem hostTransaction_keeps_inFlight {tr : Transaction} {s t : State} (hs : s.slot ≠ none)
    (hr : ¬ (Event.host tr).isReset) (h : hostTransaction tr s = .next t) : InFlightKept s t ∧ t.answered = s.answered := by
  rcases hostTransaction_cases h with ⟨-, rfl⟩ | ⟨r, -, -, rfl⟩ | ⟨w, hcheck, hk, hcmd⟩ | ⟨r, w, -, -, -, hbusy | hidle⟩
  · exact ⟨.of_badAccess tr s, badAccess_answered tr s⟩
  · exact ⟨.of_hostRead r s, hostRead_answered r s⟩
  · have hw : w ≠ 0x00000001 := by
      rintro rfl
      exact hr (.inr (congrArg Event.host (eq_cmdTransaction_of_reaches hcheck hk)))
    rw [cmdWrite_of_busy hs hw hcmd]
    exact ⟨.of_raise _ _ s, raise_answered _ _ s⟩
  · rw [hbusy.2]
    exact ⟨.of_raise _ _ s, raise_answered _ _ s⟩
  · exact absurd hidle.1 hs

theorem takeCompletion_of_unserved {s : State} (h : served s = false) : takeCompletion s = s := by
  simp [takeCompletion, h]

theorem acceptAnswer_of_core {s : State} (h : s.core ≠ none) :
    acceptAnswer s = { s with core := none, answered := s.answered + 1 } := by
  obtain ⟨r, hr⟩ := Option.ne_none_iff_exists'.1 h
  simp [acceptAnswer, hr]

/-- An unserved command has a next request, and after a `coreRequest` event it is outstanding. -/
theorem sendRequest_core_of_unserved {s : State} {i : Instr} (hs : s.slot = some i) (h : served s = false) :
    (sendRequest s).core ≠ none := by
  have hlt : s.answered < (coreRequests i s).length := by simpa [served_of_slot hs] using h
  cases hc : s.core <;> simp [sendRequest, hs, hc, List.getElem?_eq_getElem hlt]

/-- R235, R275: an event that neither completes the command in flight nor resets the machine keeps the command, and only an
answer of the core advances the counter of answers. -/
theorem handleEvent_keeps_inFlight {e : Event} {s t : State} (hs : s.slot ≠ none) (hr : ¬ e.isReset)
    (hc : e = .complete → served s = false) (h : handleEvent e s = .next t) :
    InFlightKept s t ∧ s.answered ≤ t.answered ∧ (e ≠ .coreAnswer → t.answered = s.answered) := by
  cases e with
  | host tr =>
    obtain ⟨kept, same⟩ := hostTransaction_keeps_inFlight hs hr h
    exact ⟨kept, same.ge, fun _ => same⟩
  | complete =>
    cases h
    rw [takeCompletion_of_unserved (hc rfl)]
    exact ⟨.refl s, le_rfl, fun _ => rfl⟩
  | coreRequest =>
    cases h
    rcases sendRequest_cases s with hsend | ⟨_, r, -, -, -, hsend⟩ <;> rw [hsend] <;> exact ⟨rfl, le_rfl, fun _ => rfl⟩
  | coreAnswer =>
    cases h
    rcases acceptAnswer_cases s with hacc | ⟨r, -, hacc⟩ <;> rw [hacc]
    · exact ⟨rfl, le_rfl, fun _ => rfl⟩
    · exact ⟨rfl, Nat.le_succ _, fun hne => absurd rfl hne⟩
  | lateAnswer =>
    cases h
    exact ⟨rfl, le_rfl, fun _ => rfl⟩
  | reset => exact absurd (.inl rfl) hr

theorem step_of_events {s : State} {e : Event} {rest : List Event} (h : s.events = e :: rest) :
    step s = handleEvent e { s with events := rest } := by
  simp only [step, takeEvent, h]

theorem step_of_no_events {s : State} (h : s.events = []) : step s = .next s := by
  simp only [step, takeEvent, h]

/-- `handleEvent_keeps_inFlight` for the step that takes the event off the list. -/
theorem step_keeps_inFlight {s t : State} {e : Event} {rest : List Event} (hs : s.slot ≠ none) (he : s.events = e :: rest)
    (hr : ¬ e.isReset) (hc : e = .complete → served s = false) (h : step s = .next t) :
    InFlightKept s t ∧ s.answered ≤ t.answered ∧ (e ≠ .coreAnswer → t.answered = s.answered) := by
  rw [step_of_events he] at h
  obtain ⟨kept, counter⟩ := handleEvent_keeps_inFlight (s := { s with events := rest }) hs hr (by simpa using hc) h
  exact ⟨(InFlightKept.of_events s rest).trans kept, counter⟩

/-! ### The command waits for the core -/

/-- Settles O42: a command with a request unanswered is not served, so the step, whatever its event, keeps it. -/
theorem completionWaitsForTheCore : Obligations.CompletionWaitsForTheCore := by
  unfold Obligations.CompletionWaitsForTheCore
  intro s t i e rest hs hwait he hne hr h
  have busy : s.slot ≠ none := by simp [hs]
  have unserved : served s = false := by simpa [served_of_slot hs] using hwait
  obtain ⟨kept, -, counter⟩ := step_keeps_inFlight busy he hr (fun _ => unserved) h
  refine ⟨kept.slot_eq.trans hs, ?_, kept.coreRequests_eq i, counter hne⟩
  rw [State.busy_eq_true_iff, kept.slot_eq]
  exact busy

end Sys2Proof.Machine
end

section
/-! Runs: with a core that answers every request and a unit that goes on, the counter of answers reaches the number of requests
of the command in flight, which then completes, unless a reset comes first (R12, R16, R55, R105). -/

namespace Sys2Proof.Machine

/-- The step from `run m` ends the command in flight: its completion step, every request being answered, or a reset. -/
def EndsAt (run : Nat → State) (m : Nat) : Prop :=
  (nextEvent run m = some .complete ∧ served (run m) = true) ∨ ResetAt run m

section
variable {run : Nat → State} {k : Nat} {i : Instr} (hrun : IsRun run)
include hrun

theorem handleEvent_of_nextEvent {m : Nat} {e : Event} (h : nextEvent run m = some e) :
    handleEvent e { run m with events := (run m).events.tail } = .next (run (m + 1)) := by
  rw [← step_of_events (List.eq_cons_of_mem_head? h), hrun m]

/-- A step that does not end the command in flight keeps it, and never takes back an answer. -/
theorem run_succ_keeps_inFlight {m : Nat} (hs : (run m).slot ≠ none) (hend : ¬ EndsAt run m) :
    InFlightKept (run m) (run (m + 1)) ∧ (run m).answered ≤ (run (m + 1)).answered := by
  cases he : (run m).events with
  | nil =>
    have same : run (m + 1) = run m := by simpa [step_of_no_events he] using (hrun m).symm
    rw [same]
    exact ⟨.refl _, le_rfl⟩
  | cons e rest =>
    have hnext : nextEvent run m = some e := by simp [nextEvent, he]
    have noReset : ¬ e.isReset := fun hr => hend (.inr ⟨e, hnext, hr⟩)
    have unserved : e = .complete → served (run m) = false := by
      rintro rfl
      exact Bool.eq_false_iff.2 fun hserved => hend (.inl ⟨hnext, hserved⟩)
    obtain ⟨kept, counter, -⟩ := step_keeps_inFlight hs he noReset unserved (hrun m)
    exact ⟨kept, counter⟩

/-- R55: until a step ends it, the command in flight is kept. -/
theorem inFlightKept_until {j : Nat} (hs : (run k).slot ≠ none) (hkj : k ≤ j)
    (hend : ∀ m, k ≤ m → m < j → ¬ EndsAt run m) :
    InFlightKept (run k) (run j) ∧ (run k).answered ≤ (run j).answered := by
  induction j, hkj using Nat.le_induction with
  | base => exact ⟨.refl _, le_rfl⟩
  | succ j hkj ih =>
    obtain ⟨kept, counter⟩ := ih fun m hkm hmj => hend m hkm (hmj.trans j.lt_succ_self)
    have hs' : (run j).slot ≠ none := by rwa [kept.slot_eq]
    obtain ⟨kept', counter'⟩ := run_succ_keeps_inFlight hrun hs' (hend j hkj j.lt_succ_self)
    exact ⟨kept.trans kept', counter.trans counter'⟩

theorem run_succ_of_coreAnswer {m : Nat} (h : nextEvent run m = some .coreAnswer) (hc : (run m).core ≠ none) :
    (run (m + 1)).core = none ∧ (run (m + 1)).answered = (run m).answered + 1 := by
  have hnext := handleEvent_of_nextEvent hrun h
  simp only [handleEvent, acceptAnswer_of_core (s := { run m with events := (run m).events.tail }) hc,
    Host.Outcome.next.injEq] at hnext
  simp [← hnext]

theorem run_succ_of_coreRequest {m : Nat} (h : nextEvent run m = some .coreRequest) (hs : (run m).slot = some i)
    (hserved : served (run m) = false) : (run (m + 1)).core ≠ none := by
  have hnext := handleEvent_of_nextEvent hrun h
  simp only [handleEvent, Host.Outcome.next.injEq] at hnext
  rw [← hnext]
  exact sendRequest_core_of_unserved (s := { run m with events := (run m).events.tail }) hs (by simpa using hserved)

/-! ### No command is in flight for ever

In this part no step from `k` on ends the command, which turns out to be impossible. -/

section
variable (hs : (run k).slot = some i) (hend : ∀ m, k ≤ m → ¬ EndsAt run m)
include hs hend

theorem inFlightKept_of_endless {j : Nat} (hkj : k ≤ j) : InFlightKept (run k) (run j) :=
  (inFlightKept_until hrun (by simp [hs]) hkj fun m hkm _ => hend m hkm).1

theorem slot_of_endless {j : Nat} (hkj : k ≤ j) : (run j).slot = some i :=
  (inFlightKept_of_endless hrun hs hend hkj).slot_eq.trans hs

theorem answered_mono_of_endless {j m : Nat} (hkj : k ≤ j) (hjm : j ≤ m) : (run j).answered ≤ (run m).answered :=
  (inFlightKept_until hrun (by simp [slot_of_endless hrun hs hend hkj]) hjm fun n hjn _ => hend n (hkj.trans hjn)).2

theorem answered_lt_of_unserved {m : Nat} (hkm : k ≤ m) (h : served (run m) = false) :
    (run m).answered < (coreRequests i (run k)).length := by
  rw [← (inFlightKept_of_endless hrun hs hend hkm).coreRequests_eq i]
  simpa [served_of_slot (slot_of_endless hrun hs hend hkm)] using h

/-- R16: an outstanding request is answered, which frees the core port and counts one more answer. -/
theorem core_answers_of_endless (hcore : CoreResponds run) {j : Nat} (hkj : k ≤ j) (hc : (run j).core ≠ none) :
    ∃ m, j ≤ m ∧ (run m).core = none ∧ (run j).answered < (run m).answered := by
  obtain ⟨m, hjm, hanswer | habort, outstanding⟩ := hcore.answers j hc
  · obtain ⟨free, count⟩ := run_succ_of_coreAnswer hrun hanswer (outstanding m hjm le_rfl)
    have mono := answered_mono_of_endless hrun hs hend hkj hjm
    exact ⟨m + 1, by omega, free, by omega⟩
  · exact absurd (.inr habort.1) (hend m (hkj.trans hjm))

/-- R105: with no request outstanding the unit sends the next one, as it has no completion to take. -/
theorem unit_requests_of_endless (hunit : UnitGoesOn run) {j : Nat} (hkj : k ≤ j) (hc : (run j).core = none) :
    ∃ m, j ≤ m ∧ served (run m) = false ∧ (run (m + 1)).core ≠ none := by
  have busy : (run j).slot ≠ none := by simp [slot_of_endless hrun hs hend hkj]
  obtain ⟨m, hjm, hcomplete | ⟨hrequest, hserved, -⟩ | hreset⟩ := hunit j busy hc
  · exact absurd (.inl hcomplete) (hend m (hkj.trans hjm))
  · exact ⟨m, hjm, hserved,
      run_succ_of_coreRequest hrun hrequest (slot_of_endless hrun hs hend (hkj.trans hjm)) hserved⟩
  · exact absurd (.inr hreset) (hend m (hkj.trans hjm))

/-- Induction on the answers still missing: each round of a request and its answer leaves one less, and with none missing the
unit has no request to send. -/
theorem not_endless_of_idle_core (hcore : CoreResponds run) (hunit : UnitGoesOn run) (missing : Nat) {j : Nat} (hkj : k ≤ j)
    (hc : (run j).core = none) (hmissing : (coreRequests i (run k)).length ≤ (run j).answered + missing) : False := by
  induction missing generalizing j with
  | zero =>
    obtain ⟨m, hjm, hserved, -⟩ := unit_requests_of_endless hrun hs hend hunit hkj hc
    have mono := answered_mono_of_endless hrun hs hend hkj hjm
    have left := answered_lt_of_unserved hrun hs hend (hkj.trans hjm) hserved
    omega
  | succ missing ih =>
    obtain ⟨m, hjm, -, requested⟩ := unit_requests_of_endless hrun hs hend hunit hkj hc
    obtain ⟨m', hm, free, count⟩ := core_answers_of_endless hrun hs hend hcore (by omega : k ≤ m + 1) requested
    have mono := answered_mono_of_endless hrun hs hend hkj (by omega : j ≤ m + 1)
    exact ih (by omega) free (by omega)

end

/-- R12, R16, R105: a command in flight ends. -/
theorem exists_endsAt (hcore : CoreResponds run) (hunit : UnitGoesOn run) (hs : (run k).slot = some i) :
    ∃ m, k ≤ m ∧ EndsAt run m := by
  by_contra hnone
  have hend : ∀ m, k ≤ m → ¬ EndsAt run m := fun m hkm hm => hnone ⟨m, hkm, hm⟩
  have idle : ∃ j, k ≤ j ∧ (run j).core = none := by
    by_cases hc : (run k).core = none
    · exact ⟨k, le_rfl, hc⟩
    · obtain ⟨j, hkj, free, -⟩ := core_answers_of_endless hrun hs hend hcore le_rfl hc
      exact ⟨j, hkj, free⟩
  obtain ⟨j, hkj, hc⟩ := idle
  exact not_endless_of_idle_core hrun hs hend hcore hunit _ hkj hc (Nat.le_add_left _ _)

/-- The first step that ends the command in flight finds it as it was. -/
theorem exists_endsAt_inFlightKept (hcore : CoreResponds run) (hunit : UnitGoesOn run) (hs : (run k).slot = some i) :
    ∃ j, k ≤ j ∧ EndsAt run j ∧ InFlightKept (run k) (run j) := by
  classical
  have hex := exists_endsAt hrun hcore hunit hs
  obtain ⟨hkj, hend⟩ := Nat.find_spec hex
  have first : ∀ m, k ≤ m → m < Nat.find hex → ¬ EndsAt run m := fun m hkm hm h => Nat.find_min hex hm ⟨hkm, h⟩
  exact ⟨Nat.find hex, hkj, hend, (inFlightKept_until hrun (by simp [hs]) hkj first).1⟩

end

/-- Settles O54: the command reaches a first step that ends it, and until then every operand is kept. The invariant is not
needed: the counter of answers grows with each round from every state. -/
theorem inFlightCommandEndsOnItsOperands : Obligations.InFlightCommandEndsOnItsOperands := by
  unfold Obligations.InFlightCommandEndsOnItsOperands
  intro run k i hrun hcore hunit _ hs
  obtain ⟨j, hkj, hend, kept⟩ := exists_endsAt_inFlightKept hrun hcore hunit hs
  have slot : (run j).slot = some i := kept.slot_eq.trans hs
  have answered (hserved : served (run j) = true) : (coreRequests i (run j)).length ≤ (run j).answered := by
    simpa [served_of_slot slot] using hserved
  exact ⟨j, hkj, slot, hend.imp_left (And.imp_right answered), kept.operands_eq⟩

end Sys2Proof.Machine
end

section
/-! What one event can do. A transaction that reaches a register is the aligned 4-byte access at its offset, and every event
of the total order of R85 has one of the effects of `EventEffect`: the rules about steps are read off it case by case. -/

namespace Sys2Proof.Machine

/-! ### The address map -/

/-- Every register is reached at its own offset (R74). -/
theorem regAt_offset (r : Reg) : regAt r.offset = some r := by
  cases r with
  | din k | dout k | h k | blk k | pad k => revert k; decide
  | _ => rfl

/-- Every offset of the map is aligned (R73, R74). -/
theorem offset_aligned (r : Reg) : r.offset.toNat % 4 = 0 := by
  cases r with
  | din k | dout k | h k | blk k | pad k => revert k; decide
  | _ => rfl

/-- An aligned offset that reaches a register is the register's own (R74). -/
theorem offset_of_regAt {off : Offset} {r : Reg} (aligned : off.toNat % 4 = 0) (h : regAt off = some r) : off = r.offset := by
  apply BitVec.eq_of_toNat_eq
  cases r <;>
    simp only [regAt, ite_eq_iff, dite_eq_iff, Option.some.injEq, reduceCtorEq, and_false, or_false, false_or, exists_false,
      Reg.din.injEq, Reg.dout.injEq, Reg.h.injEq, Reg.blk.injEq, Reg.pad.injEq, Fin.ext_iff, exists_prop] at h <;>
    simp only [Reg.offset, BitVec.toNat_ofNat, BitVec.reduceToNat] <;> omega

/-- The checks of R78 on an aligned 4-byte access at a register's offset: only the access type is left to check. -/
theorem checkAccess_at_offset (r : Reg) (kind : AccessKind) :
    checkAccess ⟨kind, r.offset, .word⟩ = if typeAllows r.access kind then .reaches r else .wrongType := by
  simp [checkAccess, regAt_offset, offset_aligned]

/-- The one transaction of a kind that reaches a register is the aligned 4-byte access at its offset. -/
theorem transaction_of_reaches {tr : Transaction} {r : Reg} (h : checkAccess tr = .reaches r) :
    tr = ⟨tr.kind, r.offset, .word⟩ := by
  obtain ⟨size, reg⟩ := checkAccess_reaches h
  have aligned : tr.off.toNat % 4 = 0 := by
    by_contra misaligned
    simp [checkAccess, size, misaligned] at h
  rw [← offset_of_regAt aligned reg, ← size]

/-! ### The effects -/

/-- `EventEffect e s t`: the event `e` takes the machine from `s` to `t` by the named effect. -/
inductive EventEffect (e : Event) (s : State) : State → Prop
  /-- Either reset (R260). -/
  | reset (isReset : e.isReset) : EventEffect e s (resetAll s)
  /-- At most a read value and a free draw (R80, R279); of an event that changes nothing, both stay. -/
  | silent (value : Word) (draws : Nat) : EventEffect e s { s with rdata := value, draws := draws }
  /-- An error is raised and the access or command abandoned (R76, R77, R104, R278). -/
  | error (kind : ErrorKind) (info value : Word) : EventEffect e s { raise kind info s with rdata := value }
  /-- CLR_ERR executed while BUSY = 0 (R192). -/
  | clearError (event : e = .host (cmdTransaction 0x00000002)) (idle : s.slot = none) : EventEffect e s (clearError s)
  /-- PAD_GEN of too great a length (R123). -/
  | lengthOverflow (event : e = .host (cmdTransaction 0x00000010)) (idle : s.slot = none) (unlocked : s.err = false) :
      EventEffect e s { s with err := true, errcode := 2, errinfo := 0x00000010, padv := false }
  /-- ST_DECODE of a digest of the wrong length (R143). -/
  | malformedDigest (event : e = .host (cmdTransaction 0x00000020)) (idle : s.slot = none) (unlocked : s.err = false) :
      EventEffect e s { s with err := true, errcode := 1, errinfo := 0x00000020, sv := false }
  /-- A long command passes its checks and is issued (R104). -/
  | issue (i : Instr) (idle : s.slot = none) (checks : IssueChecksHold i s) : EventEffect e s (issue i s)
  /-- The host writes a register while BUSY = 0 (R75). -/
  | write (r : Reg) (w : Word) (event : e = .host (writeWord r.offset w)) (idle : s.slot = none) :
      EventEffect e s (writeReg r w s)
  /-- The command in flight completes (R105). -/
  | complete (i : Instr) (event : e = .complete) (slot : s.slot = some i) : EventEffect e s (retire (completionEffect i s))
  /-- The next request of the command in flight is sent (R83). -/
  | request (i : Instr) (r : CoreRequest) (slot : s.slot = some i) (next : (coreRequests i s)[s.answered]? = some r) :
      EventEffect e s { s with core := some r }
  /-- The core answers the outstanding request (R83). -/
  | answer (r : CoreRequest) (outstanding : s.core = some r) :
      EventEffect e s { s with core := none, answered := s.answered + 1 }

/-- An event that changes nothing. -/
theorem EventEffect.refl (e : Event) (s : State) : EventEffect e s s := .silent s.rdata s.draws

theorem EventEffect.of_raise (e : Event) (kind : ErrorKind) (info : Word) (s : State) : EventEffect e s (raise kind info s) :=
  .error kind info (raise kind info s).rdata

theorem EventEffect.of_hostRead (e : Event) (r : Reg) (s : State) : EventEffect e s (hostRead r s) := by
  unfold hostRead
  split
  · exact .silent _ _
  · exact .silent _ s.draws

theorem EventEffect.of_badAccess (e : Event) (tr : Transaction) (s : State) : EventEffect e s (badAccess tr s) := by
  unfold badAccess
  split
  · exact .error _ _ _
  · exact .of_raise e _ _ s

/-- The CMD write of a command. -/
theorem EventEffect.of_exec {i : Instr} {s t : State} (h : exec i s = .next t) :
    EventEffect (.host (cmdTransaction (encode i))) s t := by
  rcases exec_cases h with ⟨rfl, rfl⟩ | ⟨-, -, rfl⟩ | ⟨-, -, rfl⟩ | ⟨rfl, idle, rfl⟩ | ⟨-, -, rfl⟩ | ⟨-, -, -, rfl⟩ |
    ⟨rfl, idle, unlocked, rfl⟩ | ⟨rfl, idle, unlocked, rfl⟩ | ⟨-, -, unlocked, rfl | rfl⟩ |
    ⟨-, idle, -, checks, rfl⟩
  · exact .reset (.inr rfl)
  · exact .of_raise _ _ _ s
  · exact .refl _ _
  · exact .clearError rfl idle
  · exact .of_raise _ _ _ s
  · exact .refl _ _
  · exact .lengthOverflow rfl idle unlocked
  · exact .malformedDigest rfl idle unlocked
  · have raised := EventEffect.of_raise (.host (cmdTransaction (encode i))) .noState (encode i) s
    rw [raise_of_noErr unlocked] at raised
    exact raised
  · have raised := EventEffect.of_raise (.host (cmdTransaction (encode i))) .noPad (encode i) s
    rw [raise_of_noErr unlocked] at raised
    exact raised
  · exact .issue i idle checks

/-- A write of CMD: a command, or an illegal word. -/
theorem EventEffect.of_cmdWrite {w : Word} {s t : State} (h : cmdWrite w s = .next t) :
    EventEffect (.host (cmdTransaction w)) s t := by
  rcases cmdWrite_cases h with ⟨i, hi, hexec⟩ | ⟨-, -, rfl⟩
  · rw [← encode_of_decode hi]
    exact .of_exec hexec
  · unfold whenIdle
    split <;> exact .of_raise _ _ _ s

theorem EventEffect.of_hostTransaction {tr : Transaction} {s t : State} (h : hostTransaction tr s = .next t) :
    EventEffect (.host tr) s t := by
  rcases hostTransaction_cases h with ⟨-, rfl⟩ | ⟨r, -, -, rfl⟩ | ⟨w, hcheck, hkind, hcmd⟩ |
    ⟨r, w, hcheck, -, hkind, ⟨-, rfl⟩ | ⟨idle, rfl⟩⟩
  · exact .of_badAccess _ tr s
  · exact .of_hostRead _ r s
  · rw [eq_cmdTransaction_of_reaches hcheck hkind]
    exact .of_cmdWrite hcmd
  · exact .of_raise _ _ _ s
  · refine .write r w ?_ idle
    rw [transaction_of_reaches hcheck, hkind]
    rfl

/-- Everything an event can do. -/
theorem EventEffect.of_handleEvent {e : Event} {s t : State} (h : handleEvent e s = .next t) : EventEffect e s t := by
  cases e with
  | host tr => exact .of_hostTransaction h
  | complete =>
    cases h
    rcases takeCompletion_cases s with same | ⟨i, slot, -, done⟩
    · rw [same]
      exact .refl _ s
    · rw [done]
      exact .complete i rfl slot
  | coreRequest =>
    cases h
    rcases sendRequest_cases s with same | ⟨i, r, slot, -, next, sent⟩
    · rw [same]
      exact .refl _ s
    · rw [sent]
      exact .request i r slot next
  | coreAnswer =>
    cases h
    rcases acceptAnswer_cases s with same | ⟨r, outstanding, answered⟩
    · rw [same]
      exact .refl _ s
    · rw [answered]
      exact .answer r outstanding
  | lateAnswer =>
    cases h
    exact .refl _ s
  | reset =>
    cases h
    exact .reset (.inl rfl)

/-- Everything a step that takes the event `e` can do. -/
theorem EventEffect.of_step {e : Event} {rest : List Event} {s t : State} (he : s.events = e :: rest) (h : step s = .next t) :
    EventEffect e { s with events := rest } t := by
  rw [step_of_events he] at h
  exact .of_handleEvent h

end Sys2Proof.Machine
end

section
/-! The invariant (R54 with R41, R43, R55, R56). It is taken apart into what it says of the stream, of the padding, of the error
record and of the command in flight with the core port; each part holds after reset and is kept by every effect of an event. -/

namespace Sys2Proof.Machine

/-! ### The parts of the invariant -/

/-- R54 (a) and (b): FILL and BLK. -/
structure StreamInv (s : State) : Prop where
  fill_lt : s.fill.toNat < 64
  blk_zero : ∀ j : Fin 64, s.fill.toNat ≤ j.val → s.blk[j] = 0

/-- R43 and R54 (c): PADLEN, PAD and PADV. -/
structure PadInv (s : State) : Prop where
  padlen_range : s.padlen.toNat = 0 ∨ (9 ≤ s.padlen.toNat ∧ s.padlen.toNat ≤ 72)
  pad_valid : s.padv = true → ∃ n, n < lengthLimit ∧ HoldsPadding n s

/-- R54 (d) and (e): the error record. -/
structure ErrorInv (s : State) : Prop where
  err_clear : s.err = false → s.errcode = 0 ∧ s.errinfo = 0
  err_code : s.err = true → 1 ≤ s.errcode.toNat ∧ s.errcode.toNat ≤ 7

/-- R55 and R56: the command in flight and its requests. -/
structure PortInv (s : State) : Prop where
  slot_checked : ∀ i, s.slot = some i → IssueChecksHold i s
  core_idle : s.slot = none → s.core = none ∧ s.answered = 0
  answered_le : ∀ i, s.slot = some i → s.answered ≤ (coreRequests i s).length
  core_next : ∀ i r, s.slot = some i → s.core = some r → (coreRequests i s)[s.answered]? = some r

section
variable {s : State}

theorem Inv.stream (inv : Inv s) : StreamInv s := ⟨inv.fill_lt, inv.blk_zero⟩

theorem Inv.padding (inv : Inv s) : PadInv s := ⟨inv.padlen_range, inv.pad_valid⟩

theorem Inv.error (inv : Inv s) : ErrorInv s := ⟨inv.err_clear, inv.err_code⟩

theorem Inv.port (inv : Inv s) : PortInv s := ⟨inv.slot_checked, inv.core_idle, inv.answered_le, inv.core_next⟩

theorem Inv.of_parts (stream : StreamInv s) (padding : PadInv s) (error : ErrorInv s) (port : PortInv s) : Inv s :=
  { stream, padding, error, port with }

theorem StreamInv.congr {t : State} (inv : StreamInv s) (fill : t.fill = s.fill) (blk : t.blk = s.blk) : StreamInv t :=
  ⟨by rw [fill]; exact inv.fill_lt, by rw [fill, blk]; exact inv.blk_zero⟩

theorem PadInv.congr {t : State} (inv : PadInv s) (padlen : t.padlen = s.padlen) (pad : t.pad = s.pad)
    (padv : t.padv = s.padv) : PadInv t := by
  refine ⟨by rw [padlen]; exact inv.padlen_range, ?_⟩
  simp only [HoldsPadding, padlen, pad, padv]
  exact inv.pad_valid

theorem ErrorInv.congr {t : State} (inv : ErrorInv s) (err : t.err = s.err) (errcode : t.errcode = s.errcode)
    (errinfo : t.errinfo = s.errinfo) : ErrorInv t :=
  ⟨by rw [err, errcode, errinfo]; exact inv.err_clear, by rw [err, errcode]; exact inv.err_code⟩

/-- With BUSY = 0 the core port is idle, and no more is asked. -/
theorem PortInv.of_idle (idle : s.slot = none) (core : s.core = none) (answered : s.answered = 0) : PortInv s where
  slot_checked i slot := by simp [idle] at slot
  core_idle _ := ⟨core, answered⟩
  answered_le i slot := by simp [idle] at slot
  core_next i r slot := by simp [idle] at slot

/-- With BUSY = 1 the invariant speaks of the one command in flight. -/
theorem PortInv.of_slot {i : Instr} (slot : s.slot = some i) (checks : IssueChecksHold i s)
    (answered : s.answered ≤ (coreRequests i s).length)
    (next : ∀ r, s.core = some r → (coreRequests i s)[s.answered]? = some r) : PortInv s where
  slot_checked j hj := by cases slot.symm.trans hj; exact checks
  core_idle idle := by simp [slot] at idle
  answered_le j hj := by cases slot.symm.trans hj; exact answered
  core_next j r hj := by cases slot.symm.trans hj; exact next r

/-- An event that leaves the slot empty and the core port alone. -/
theorem PortInv.stays_idle {t : State} (inv : PortInv s) (idle : s.slot = none) (slot : t.slot = s.slot)
    (core : t.core = s.core) (answered : t.answered = s.answered) : PortInv t :=
  .of_idle (slot.trans idle) (core.trans (inv.core_idle idle).1) (answered.trans (inv.core_idle idle).2)

/-- R55: the checks made at issue concern only what stays while the command is in flight. -/
theorem InFlightKept.issueChecksHold {t : State} (kept : InFlightKept s t) {i : Instr} (checks : IssueChecksHold i s) :
    IssueChecksHold i t := by
  obtain ⟨len, diglen, -, -, -, -, -, -, -, sv, padv⟩ := kept.operands_eq
  unfold IssueChecksHold at checks ⊢
  rwa [len, diglen, sv, padv]

/-- An event that keeps the command in flight and leaves the core port alone. -/
theorem PortInv.of_kept {t : State} (inv : PortInv s) (kept : InFlightKept s t) (core : t.core = s.core)
    (answered : t.answered = s.answered) : PortInv t where
  slot_checked i slot := kept.issueChecksHold (inv.slot_checked i (kept.slot_eq.symm.trans slot))
  core_idle idle := by rw [core, answered]; exact inv.core_idle (kept.slot_eq.symm.trans idle)
  answered_le i slot := by
    rw [answered, kept.coreRequests_eq]
    exact inv.answered_le i (kept.slot_eq.symm.trans slot)
  core_next i r slot outstanding := by
    rw [answered, kept.coreRequests_eq]
    exact inv.core_next i r (kept.slot_eq.symm.trans slot) (core.symm.trans outstanding)

end

/-! ### Reset -/

/-- Both resets make the invariant true, whatever the state was. -/
theorem inv_resetAll (s : State) : Inv (resetAll s) :=
  .of_parts ⟨by simp [State.reset], by simp [State.reset]⟩ ⟨.inl rfl, by simp [State.reset]⟩
    ⟨fun _ => ⟨rfl, rfl⟩, by simp [State.reset]⟩ (.of_idle rfl rfl rfl)

/-- Settles O43: the reset state is what a reset makes of itself. -/
theorem invariantHoldsAtReset : Obligations.InvariantHoldsAtReset := by
  unfold Obligations.InvariantHoldsAtReset
  exact inv_resetAll State.reset

/-! ### Completions -/

section
variable (i : Instr) (s : State)

@[simp] theorem completionEffect_len : (completionEffect i s).len = s.len := by cases i <;> simp [completionEffect]
@[simp] theorem completionEffect_diglen : (completionEffect i s).diglen = s.diglen := by cases i <;> simp [completionEffect]
@[simp] theorem completionEffect_data : (completionEffect i s).data = s.data := by cases i <;> simp [completionEffect]
@[simp] theorem completionEffect_din : (completionEffect i s).din = s.din := by cases i <;> simp [completionEffect]
@[simp] theorem completionEffect_err : (completionEffect i s).err = s.err := by cases i <;> simp [completionEffect]
@[simp] theorem completionEffect_errcode : (completionEffect i s).errcode = s.errcode := by cases i <;> simp [completionEffect]
@[simp] theorem completionEffect_errinfo : (completionEffect i s).errinfo = s.errinfo := by cases i <;> simp [completionEffect]

/-- R39, R43, R52: only PAD_GEN's completion writes the padding. -/
theorem completionEffect_padding (h : i ≠ .padGen) : (completionEffect i s).padlen = s.padlen ∧
    (completionEffect i s).pad = s.pad ∧ (completionEffect i s).padv = s.padv := by
  cases i <;> simp [completionEffect] at h ⊢

end

theorem appendByte_of_lt {s : State} (h : s.fill.toNat < 63) (b : Byte) : appendByte b s = storeByte b s :=
  if_neg (by rw [storeByte_fill]; bv_omega)

theorem appendByte_of_eq {s : State} (h : s.fill.toNat = 63) (b : Byte) : appendByte b s = blockStep (storeByte b s) :=
  if_pos (by rw [storeByte_fill]; bv_omega)

theorem StreamInv.of_empty {s : State} (fill : s.fill = 0) (blk : s.blk = Vector.replicate 64 0) : StreamInv s :=
  ⟨by simp [fill], by simp [blk]⟩

/-- R161: below the end of the block the byte goes to the first free place; the 64th byte empties the block. -/
theorem StreamInv.appendByte {s : State} (inv : StreamInv s) (b : Byte) : StreamInv (appendByte b s) := by
  have fill_lt := inv.fill_lt
  by_cases last : s.fill.toNat = 63
  · rw [appendByte_of_eq last]
    exact .of_empty rfl rfl
  · have lt : s.fill.toNat < 63 := by omega
    have fill : (s.fill + 1).toNat = s.fill.toNat + 1 := by bv_omega
    rw [appendByte_of_lt lt]
    refine ⟨by simp only [storeByte_fill]; omega, fun j hj => ?_⟩
    simp only [storeByte_fill, fill] at hj
    have zero : s.blk[j.val] = 0 := inv.blk_zero j (by omega)
    simpa [Vector.getElem_setIfInBounds, show s.fill.toNat ≠ j.val by omega] using zero

theorem StreamInv.appendBytes {s : State} (inv : StreamInv s) (bs : List Byte) : StreamInv (appendBytes bs s) := by
  induction bs generalizing s with
  | nil => exact inv
  | cons b bs ih => exact ih (inv.appendByte b)

theorem StreamInv.completionEffect {s : State} (inv : StreamInv s) (i : Instr) : StreamInv (completionEffect i s) := by
  cases i with
  | nop | softReset | clrErr => exact inv
  | padGen => exact inv.congr (completePadGen_fill s) (completePadGen_blk s)
  | stDecode => exact .of_empty (completeStDecode_fill s) (completeStDecode_blk s)
  | stEncode => exact inv.congr (completeStEncode_fill s) (completeStEncode_blk s)
  | seqClear => exact .of_empty rfl rfl
  | seqPush n => exact inv.appendBytes (pushedBytes n s)
  | seqFlush =>
    by_cases partial_block : s.fill.toNat > 0
    · rw [show Machine.completionEffect .seqFlush s = blockStep s from if_pos partial_block]
      exact .of_empty rfl rfl
    · rw [show Machine.completionEffect .seqFlush s = s from if_neg partial_block]
      exact inv
  | seqPushpad => exact inv.appendBytes (paddingBytes s)

theorem padding_length (n : Nat) : (padding n).length = zeroCount n + 9 := by
  simp [padding, be64]

theorem zeroCount_lt (n : Nat) : zeroCount n < 64 := by
  unfold zeroCount
  split_ifs <;> omega

/-- R122: PAD_GEN of an accepted length leaves its padding. -/
theorem PadInv.completePadGen {s : State} (accepted : s.len.toNat < lengthLimit) : PadInv (completePadGen s) := by
  have length := padding_length s.len.toNat
  have zeros := zeroCount_lt s.len.toNat
  have padlen : (Machine.completePadGen s).padlen.toNat = (Machine.padding s.len.toNat).length := by
    rw [completePadGen_padlen, BitVec.toNat_ofNat]
    omega
  exact ⟨.inr (by omega), fun _ => ⟨s.len.toNat, accepted, padlen, by simp⟩⟩

theorem PadInv.completionEffect {s : State} (inv : PadInv s) {i : Instr} (checks : IssueChecksHold i s) :
    PadInv (completionEffect i s) := by
  by_cases h : i = .padGen
  · subst h
    exact .completePadGen checks
  · obtain ⟨padlen, pad, padv⟩ := completionEffect_padding i s h
    exact inv.congr padlen pad padv

/-! ### Errors -/

theorem ErrorKind.code_range (kind : ErrorKind) : 1 ≤ kind.code.toNat ∧ kind.code.toNat ≤ 7 := by
  cases kind <;> decide

theorem ErrorInv.of_code {s : State} (err : s.err = true) (code : 1 ≤ s.errcode.toNat ∧ s.errcode.toNat ≤ 7) : ErrorInv s :=
  ⟨fun h => by simp [err] at h, fun _ => code⟩

theorem ErrorInv.raise {s : State} (inv : ErrorInv s) (kind : ErrorKind) (info : Word) : ErrorInv (raise kind info s) := by
  rcases raise_cases kind info s with ⟨-, same⟩ | ⟨-, recorded⟩
  · rw [same]
    exact inv
  · rw [recorded]
    exact .of_code rfl kind.code_range

/-! ### Every effect keeps each part -/

section
variable {e : Event} {s t : State}

theorem StreamInv.of_effect (inv : StreamInv s) (effect : EventEffect e s t) : StreamInv t := by
  cases effect with
  | reset => exact (inv_resetAll s).stream
  | error kind info => exact inv.congr (raise_fill kind info s) (raise_blk kind info s)
  | write r w => exact inv.congr (writeReg_fill r w s) (writeReg_blk r w s)
  | complete i => exact (inv.completionEffect i).congr rfl rfl
  | silent | clearError | lengthOverflow | malformedDigest | issue | request | answer => exact inv.congr rfl rfl

/-- A completing PAD_GEN relies on the check that it passed at issue. -/
theorem PadInv.of_effect (inv : PadInv s) (port : PortInv s) (effect : EventEffect e s t) : PadInv t := by
  cases effect with
  | reset => exact (inv_resetAll s).padding
  | error kind info => exact inv.congr (raise_padlen kind info s) (raise_pad kind info s) (raise_padv kind info s)
  | write r w => exact inv.congr (writeReg_padlen r w s) (writeReg_pad r w s) (writeReg_padv r w s)
  | lengthOverflow => exact ⟨inv.padlen_range, fun padv => by simp at padv⟩
  | complete i _ slot => exact (inv.completionEffect (port.slot_checked i slot)).congr rfl rfl rfl
  | silent | clearError | malformedDigest | issue | request | answer => exact inv.congr rfl rfl rfl

theorem ErrorInv.of_effect (inv : ErrorInv s) (effect : EventEffect e s t) : ErrorInv t := by
  cases effect with
  | reset => exact (inv_resetAll s).error
  | error kind info => exact (inv.raise kind info).congr rfl rfl rfl
  | clearError => exact ⟨fun _ => ⟨rfl, rfl⟩, fun err => by simp at err⟩
  | lengthOverflow => exact .of_code rfl (ErrorKind.code_range .lengthOverflow)
  | malformedDigest => exact .of_code rfl (ErrorKind.code_range .malformedDigest)
  | write r w => exact inv.congr (writeReg_err r w s) (writeReg_errcode r w s) (writeReg_errinfo r w s)
  | complete i => exact inv.congr (completionEffect_err i s) (completionEffect_errcode i s) (completionEffect_errinfo i s)
  | silent | issue | request | answer => exact inv.congr rfl rfl rfl

/-- R56: a request that is sent is the next one, and an answer is counted only when a request is outstanding. -/
theorem PortInv.of_effect (inv : PortInv s) (effect : EventEffect e s t) : PortInv t := by
  cases effect with
  | reset => exact (inv_resetAll s).port
  | silent => exact inv.of_kept rfl rfl rfl
  | error kind info value =>
    exact inv.of_kept ((InFlightKept.of_raise kind info s).trans rfl) (raise_core kind info s) (raise_answered kind info s)
  | clearError _ idle | lengthOverflow _ idle | malformedDigest _ idle => exact inv.stays_idle idle rfl rfl rfl
  | write r w _ idle => exact inv.stays_idle idle (writeReg_slot r w s) (writeReg_core r w s) (writeReg_answered r w s)
  | complete => exact .of_idle rfl rfl rfl
  | issue i idle checks =>
    obtain ⟨core, answered⟩ := inv.core_idle idle
    refine .of_slot (issue_slot i s) (by cases i <;> exact checks) ?_ fun r outstanding => ?_
    · simp [answered]
    · simp [core] at outstanding
  | request i r slot next =>
    have kept : InFlightKept s { s with core := some r } := rfl
    refine .of_slot slot (kept.issueChecksHold (inv.slot_checked i slot)) ?_ fun q outstanding => ?_ <;>
      rw [kept.coreRequests_eq]
    · exact inv.answered_le i slot
    · cases outstanding
      exact next
  | answer r outstanding =>
    have kept : InFlightKept s { s with core := none, answered := s.answered + 1 } := rfl
    obtain ⟨i, slot⟩ : ∃ i, s.slot = some i :=
      Option.ne_none_iff_exists'.1 fun idle => by simp [(inv.core_idle idle).1] at outstanding
    obtain ⟨left, -⟩ := List.getElem?_eq_some_iff.1 (inv.core_next i r slot outstanding)
    refine .of_slot slot (kept.issueChecksHold (inv.slot_checked i slot)) ?_ fun q none_left => ?_
    · rw [kept.coreRequests_eq]
      exact left
    · simp at none_left

theorem Inv.of_effect (inv : Inv s) (effect : EventEffect e s t) : Inv t :=
  .of_parts (inv.stream.of_effect effect) (inv.padding.of_effect inv.port effect) (inv.error.of_effect effect)
    (inv.port.of_effect effect)

end

/-- The invariant says nothing of the events to come. -/
theorem Inv.of_events {s : State} (inv : Inv s) (es : List Event) : Inv { s with events := es } :=
  .of_parts (inv.stream.congr rfl rfl) (inv.padding.congr rfl rfl rfl) (inv.error.congr rfl rfl rfl)
    (inv.port.of_kept (.of_events s es) rfl rfl)

/-- Settles O44: a step handles the next event, if there is one, and every effect of an event keeps the invariant. -/
theorem everyStepKeepsTheInvariant : Obligations.EveryStepKeepsTheInvariant := by
  unfold Obligations.EveryStepKeepsTheInvariant
  intro s t inv h
  cases he : s.events with
  | nil =>
    rw [step_of_no_events he] at h
    cases h
    exact inv
  | cons e rest => exact (inv.of_events rest).of_effect (.of_step he h)

end Sys2Proof.Machine
end

section
/-! Who writes what: results, operands, the error record and the validity bits change only by the effects that the register
definitions of 10_state.md name. -/

namespace Sys2Proof.Machine

/-! ### Results -/

/-- The results of commands are in `t` as they are in `s`. -/
structure ResultsKept (s t : State) : Prop where
  h : t.h = s.h
  blk : t.blk = s.blk
  fill : t.fill = s.fill
  blkcnt : t.blkcnt = s.blkcnt
  dout : t.dout = s.dout
  pad : t.pad = s.pad
  padlen : t.padlen = s.padlen

/-- R33, R46, R48, R51, R52, R53: but for a reset, only a completion writes a result. -/
theorem EventEffect.results {e : Event} {s t : State} (effect : EventEffect e s t) (noReset : ¬ e.isReset) :
    ResultsKept s t ∨ ∃ i, e = .complete ∧ s.slot = some i ∧ t = retire (completionEffect i s) := by
  cases effect with
  | reset isReset => exact absurd isReset noReset
  | complete i event slot => exact .inr ⟨i, event, slot, rfl⟩
  | error kind info => exact .inl (by constructor <;> simp)
  | write r w => exact .inl (by constructor <;> simp)
  | silent | clearError | lengthOverflow | malformedDigest | issue | request | answer => exact .inl (by constructor <;> rfl)

section
variable {i : Instr} {s : State}

theorem writer_of_h (change : (completionEffect i s).h ≠ s.h) :
    i = .stDecode ∨ (∃ n, i = .seqPush n) ∨ i = .seqFlush ∨ i = .seqPushpad := by
  cases i <;> simp [completionEffect] at change ⊢

theorem writer_of_stream (change : (completionEffect i s).blk ≠ s.blk ∨ (completionEffect i s).fill ≠ s.fill ∨
      (completionEffect i s).blkcnt ≠ s.blkcnt) :
    i = .stDecode ∨ i = .seqClear ∨ (∃ n, i = .seqPush n) ∨ i = .seqFlush ∨ i = .seqPushpad := by
  cases i <;> simp [completionEffect] at change ⊢

theorem writer_of_dout (change : (completionEffect i s).dout ≠ s.dout) : i = .stEncode := by
  cases i <;> simp [completionEffect] at change ⊢

theorem writer_of_padding (change : (completionEffect i s).pad ≠ s.pad ∨ (completionEffect i s).padlen ≠ s.padlen) :
    i = .padGen := by
  by_contra other
  obtain ⟨padlen, pad, -⟩ := completionEffect_padding i s other
  exact change.elim (· pad) (· padlen)

end

/-- Settles O48: a result changes only at a completion, and each completion writes the results of its own command. -/
theorem resultsHaveOneWriter : Obligations.ResultsHaveOneWriter := by
  unfold Obligations.ResultsHaveOneWriter
  intro s t e rest he h noReset
  rcases (EventEffect.of_step he h).results noReset with kept | ⟨i, event, slot, rfl⟩
  · obtain ⟨h, blk, fill, blkcnt, dout, pad, padlen⟩ := kept
    simp [h, blk, fill, blkcnt, dout, pad, padlen]
  · simp only [show s.slot = some i from slot, Option.some.injEq]
    exact ⟨fun change => ⟨event, writer_of_h change⟩, fun change => ⟨event, writer_of_stream change⟩,
      fun change => ⟨event, writer_of_dout change⟩, fun change => ⟨event, writer_of_padding change⟩⟩

/-! ### Operands -/

/-- The operands of commands are in `t` as they are in `s`. -/
structure OperandsKept (s t : State) : Prop where
  len : t.len = s.len
  diglen : t.diglen = s.diglen
  data : t.data = s.data
  din : t.din = s.din

/-- R42, R44, R45, R50, R55: but for a reset, only a host write made while BUSY = 0 changes an operand. -/
theorem EventEffect.operands {e : Event} {s t : State} (effect : EventEffect e s t) (noReset : ¬ e.isReset) :
    OperandsKept s t ∨ ∃ r w, e = .host (writeWord r.offset w) ∧ s.slot = none ∧ t = writeReg r w s := by
  cases effect with
  | reset isReset => exact absurd isReset noReset
  | write r w event idle => exact .inr ⟨r, w, event, idle, rfl⟩
  | error kind info => exact .inl (by constructor <;> simp)
  | complete i => exact .inl (by constructor <;> simp)
  | silent | clearError | lengthOverflow | malformedDigest | issue | request | answer => exact .inl (by constructor <;> rfl)

section
variable {r : Reg} {w : Word} {s : State}

theorem offset_of_len_written (change : (writeReg r w s).len ≠ s.len) : r.offset = 0x010 ∨ r.offset = 0x014 := by
  cases r <;> simp [writeReg, Reg.offset] at change ⊢

theorem offset_of_diglen_written (change : (writeReg r w s).diglen ≠ s.diglen) : r.offset = 0x01C := by
  cases r <;> simp [writeReg, Reg.offset] at change ⊢

theorem offset_of_data_written (change : (writeReg r w s).data ≠ s.data) : r.offset = 0x020 := by
  cases r <;> simp [writeReg, Reg.offset] at change ⊢

theorem offset_of_din_written (change : (writeReg r w s).din ≠ s.din) : 0x040 ≤ r.offset.toNat ∧ r.offset.toNat < 0x060 := by
  cases r with
  | din k =>
    simp only [Reg.offset, BitVec.toNat_ofNat]
    omega
  | _ => exact absurd rfl change

end

/-- Settles O49: the one effect that changes an operand is a host write with BUSY = 0, to the offset of that operand. -/
theorem onlyTheHostWritesOperands : Obligations.OnlyTheHostWritesOperands := by
  unfold Obligations.OnlyTheHostWritesOperands
  intro s t e rest he h noReset change
  rcases (EventEffect.of_step he h).operands noReset with kept | ⟨r, w, event, idle, rfl⟩
  · obtain ⟨len, diglen, data, din⟩ := kept
    simp [len, diglen, data, din] at change
  · exact ⟨idle, r.offset, w, event, offset_of_len_written, offset_of_diglen_written, offset_of_data_written,
      offset_of_din_written⟩

/-! ### The error record -/

/-- R37, R40, R237: but for a reset and an executed CLR_ERR, a recorded error stays as it was recorded. -/
theorem EventEffect.keeps_first_error {e : Event} {s t : State} (effect : EventEffect e s t) (locked : s.err = true)
    (noReset : ¬ e.isReset) (noClear : ¬ (e = .host (cmdTransaction 0x00000002) ∧ s.slot = none)) :
    t.err = true ∧ t.errcode = s.errcode ∧ t.errinfo = s.errinfo := by
  cases effect with
  | reset isReset => exact absurd isReset noReset
  | clearError event idle => exact absurd ⟨event, idle⟩ noClear
  | lengthOverflow _ _ unlocked | malformedDigest _ _ unlocked => simp [locked] at unlocked
  | error kind info => simp [raise_of_err locked, locked]
  | write r w => simp [locked]
  | complete i => simp [locked]
  | silent | issue | request | answer => exact ⟨locked, rfl, rfl⟩

/-- Settles O50: every other effect than a reset and CLR_ERR's keeps the record. -/
theorem errorIsStickyUntilCleared : Obligations.ErrorIsStickyUntilCleared := by
  unfold Obligations.ErrorIsStickyUntilCleared
  intro s t e rest locked he h noReset noClear
  exact (EventEffect.of_step he h).keeps_first_error locked noReset noClear

/-! ### The validity bits -/

/-- R38: ST_DECODE's completion alone writes SV. -/
theorem completionEffect_sv {i : Instr} (h : i ≠ .stDecode) (s : State) : (completionEffect i s).sv = s.sv := by
  cases i <;> simp [completionEffect] at h ⊢

/-- R38: every event keeps SV but the resets, the completion of an ST_DECODE, which sets it, and a refused one, which clears
it. -/
theorem EventEffect.sv_cases {e : Event} {s t : State} (effect : EventEffect e s t) :
    t.sv = s.sv ∨ (t.sv = true ∧ e = .complete ∧ s.slot = some .stDecode) ∨
      (t.sv = false ∧ (e.isReset ∨ e = .host (cmdTransaction 0x00000020))) := by
  cases effect with
  | reset isReset => exact .inr (.inr ⟨rfl, .inl isReset⟩)
  | malformedDigest event => exact .inr (.inr ⟨rfl, .inr event⟩)
  | complete i event slot =>
    by_cases h : i = .stDecode
    · subst h
      exact .inr (.inl ⟨completeStDecode_sv s, event, slot⟩)
    · exact .inl (completionEffect_sv h s)
  | error kind info => exact .inl (raise_sv kind info s)
  | write r w => exact .inl (writeReg_sv r w s)
  | silent | clearError | lengthOverflow | issue | request | answer => exact .inl rfl

/-- R39: the same of PADV and PAD_GEN. -/
theorem EventEffect.padv_cases {e : Event} {s t : State} (effect : EventEffect e s t) :
    t.padv = s.padv ∨ (t.padv = true ∧ e = .complete ∧ s.slot = some .padGen) ∨
      (t.padv = false ∧ (e.isReset ∨ e = .host (cmdTransaction 0x00000010))) := by
  cases effect with
  | reset isReset => exact .inr (.inr ⟨rfl, .inl isReset⟩)
  | lengthOverflow event => exact .inr (.inr ⟨rfl, .inr event⟩)
  | complete i event slot =>
    by_cases h : i = .padGen
    · subst h
      exact .inr (.inl ⟨completePadGen_padv s, event, slot⟩)
    · exact .inl (completionEffect_padding i s h).2.2
  | error kind info => exact .inl (raise_padv kind info s)
  | write r w => exact .inl (writeReg_padv r w s)
  | silent | clearError | malformedDigest | issue | request | answer => exact .inl rfl

/-- Settles O51: each change of a bit leaves one of the cases. -/
theorem validityBitsHaveOneSetter : Obligations.ValidityBitsHaveOneSetter := by
  unfold Obligations.ValidityBitsHaveOneSetter
  intro s t e rest he h
  have effect := EventEffect.of_step he h
  refine ⟨fun was is => ?_, fun was is => ?_, fun was is => ?_, fun was is => ?_⟩
  · simpa [was, is] using effect.sv_cases
  · simpa [was, is] using effect.padv_cases
  · simpa [was, is] using effect.sv_cases
  · simpa [was, is] using effect.padv_cases

end Sys2Proof.Machine
end

section
/-! The host port: what an accepted access does, the values that registers read, and the words of byte buffers (R18, R34, R81). -/

namespace Sys2Proof.Machine

/-! ### Accepted accesses -/

/-- R34, R104: the CMD write of a word presents it to the decoder. -/
theorem hostTransaction_cmdTransaction (w : Word) (s : State) : hostTransaction (cmdTransaction w) s = cmdWrite w s := by
  simp [hostTransaction, cmdTransaction, writeWord, checkAccess_at_offset, Reg.access, typeAllows, hostWrite]

theorem cmdWrite_of_decode {w : Word} {i : Instr} (h : decode w = .ok i) (s : State) : cmdWrite w s = exec i s := by
  simp [cmdWrite, h]

/-- Settles O4: the event is a CMD write, and its word decodes. -/
theorem stepRunsTheDecodedCommand : Obligations.StepRunsTheDecodedCommand := by
  unfold Obligations.StepRunsTheDecodedCommand
  intro s w i rest hw he
  calc step s = hostTransaction (cmdTransaction w) { s with events := rest } := step_of_events he
    _ = cmdWrite w { s with events := rest } := hostTransaction_cmdTransaction w _
    _ = exec i { s with events := rest } := cmdWrite_of_decode hw _

/-- R75: an RW register stores what is written to it while BUSY = 0. -/
theorem hostTransaction_writeWord {r : Reg} (rw_access : r.access = .rw) (w : Word) {s : State} (idle : s.slot = none) :
    hostTransaction (writeWord r.offset w) s = .next (writeReg r w s) := by
  have not_cmd : r ≠ .cmd := by
    rintro rfl
    cases rw_access
  simp [hostTransaction, writeWord, checkAccess_at_offset, rw_access, typeAllows, hostWrite_of_ne_cmd not_cmd,
    (s.busy_eq_false_iff).2 idle]

/-- R76: every register but CMD can be read. -/
theorem typeAllows_read {r : Reg} (h : r ≠ .cmd) : typeAllows r.access .read = true := by
  cases r with
  | cmd => exact absurd rfl h
  | _ => rfl

/-- R75, R76: an access that reads a register. -/
theorem hostTransaction_readWord {r : Reg} (h : r ≠ .cmd) (s : State) :
    hostTransaction (readWord r.offset) s = .next (hostRead r s) := by
  simp [hostTransaction, readWord, checkAccess_at_offset, typeAllows_read h]

/-- R279: a register that the command in flight does not write reads exactly. -/
theorem hostRead_exact {r : Reg} {s : State} (h : ∀ i, s.slot = some i → unspecifiedDuring i r = false) :
    hostRead r s = { s with rdata := readReg r s } := by
  have exact_read : readUnspecified r s = false := by
    unfold readUnspecified
    split
    · rfl
    · next i slot => exact h i slot
  simp [hostRead, exact_read]

/-! ### Buffer words -/

/-- R18: `fromLANES` undoes `LANES`. -/
theorem fromLanes_lane (w : Word) : fromLanes (lane w 0) (lane w 1) (lane w 2) (lane w 3) = w := by
  apply BitVec.eq_of_toNat_eq
  have := w.isLt
  simp only [fromLanes_toNat, lane, BitVec.extractLsb'_toNat, Nat.shiftRight_eq_div_pow]
  omega

theorem byteAt_of_lt {n j : Nat} (v : Vector Byte n) (h : j < n) : byteAt v j = v[j] := by
  simp [byteAt, h]

/-- R81: lane `j` of a buffer word is byte 4k+j. -/
theorem lane_bufferWord {n : Nat} (v : Vector Byte n) (k : Nat) (j : Fin 4) :
    lane (bufferWord v k) j.val = byteAt v (4 * k + j.val) := by
  obtain ⟨lane0, lane1, lane2, lane3⟩ :=
    lane_fromLanes (byteAt v (4 * k)) (byteAt v (4 * k + 1)) (byteAt v (4 * k + 2)) (byteAt v (4 * k + 3))
  match j with
  | 0 => exact lane0
  | 1 => exact lane1
  | 2 => exact lane2
  | 3 => exact lane3

/-- R50: the bytes of a buffer after a write of one of its words. -/
theorem byteAt_setBufferWord {n : Nat} (v : Vector Byte n) (k m : Nat) (w : Word) {j : Nat} (lane_lt : j < 4)
    (h : 4 * m + j < n) :
    byteAt (setBufferWord v k w) (4 * m + j) = if m = k then lane w j else byteAt v (4 * m + j) := by
  have word : (4 * m + j) / 4 = m := by omega
  have byte : (4 * m + j) % 4 = j := by omega
  simp [byteAt_of_lt, h, setBufferWord, word, byte]

theorem bufferWord_setBufferWord {n : Nat} (v : Vector Byte n) (k m : Nat) (w : Word) (h : 4 * m + 3 < n) :
    bufferWord (setBufferWord v k w) m = if m = k then w else bufferWord v m := by
  have byte {j : Nat} (hj : j < 4) := byteAt_setBufferWord v k m w hj (by omega)
  have byte0 := byte (show 0 < 4 by decide)
  rw [Nat.add_zero] at byte0
  simp only [bufferWord, byte0, byte (show 1 < 4 by decide), byte (show 2 < 4 by decide), byte (show 3 < 4 by decide)]
  split
  · exact fromLanes_lane w
  · rfl

/-- Settles O32, from the read of any word after the write of any word. -/
theorem bufferWordsReadBack : Obligations.BufferWordsReadBack := by
  unfold Obligations.BufferWordsReadBack
  refine ⟨fun d k w => ⟨?_, fun m hm => ?_⟩, fromLanes_lane⟩
  · rw [bufferWord_setBufferWord d k k w (by omega), if_pos rfl]
  · rw [bufferWord_setBufferWord d k m w (by omega), if_neg (Fin.val_ne_of_ne hm)]

/-! ### Writes of the RW registers -/

/-- R42: a write of LEN_LO keeps the upper half. -/
theorem writeReg_lenLo (w : Word) (s : State) :
    writeReg .lenLo w s = { s with len := BitVec.ofNat 64 (s.len.toNat / 2 ^ 32 * 2 ^ 32 + w.toNat) } := by
  have halves : s.len.extractLsb' 32 32 ++ w = BitVec.ofNat 64 (s.len.toNat / 2 ^ 32 * 2 ^ 32 + w.toNat) := by
    apply BitVec.eq_of_toNat_eq
    have := s.len.isLt
    have := w.isLt
    rw [BitVec.toNat_append, ← Nat.shiftLeft_add_eq_or_of_lt w.isLt, Nat.shiftLeft_eq, BitVec.extractLsb'_toNat,
      Nat.shiftRight_eq_div_pow, BitVec.toNat_ofNat]
    omega
  simp only [writeReg, halves]

/-- R42: a write of LEN_HI keeps the lower half. -/
theorem writeReg_lenHi (w : Word) (s : State) :
    writeReg .lenHi w s = { s with len := BitVec.ofNat 64 (w.toNat * 2 ^ 32 + s.len.toNat % 2 ^ 32) } := by
  have halves : w ++ s.len.extractLsb' 0 32 = BitVec.ofNat 64 (w.toNat * 2 ^ 32 + s.len.toNat % 2 ^ 32) := by
    apply BitVec.eq_of_toNat_eq
    have := s.len.isLt
    have := w.isLt
    rw [BitVec.toNat_append, ← Nat.shiftLeft_add_eq_or_of_lt (s.len.extractLsb' 0 32).isLt, Nat.shiftLeft_eq,
      BitVec.extractLsb'_toNat, Nat.shiftRight_eq_div_pow, BitVec.toNat_ofNat]
    omega
  simp only [writeReg, halves]

/-- Settles O27: each of these offsets is that of an RW register, which stores the word. -/
theorem rwWritesStoreTheirValue : Obligations.RwWritesStoreTheirValue := by
  unfold Obligations.RwWritesStoreTheirValue
  intro s w idle
  refine ⟨?_, ?_, hostTransaction_writeWord (r := .diglen) rfl w idle, hostTransaction_writeWord (r := .data) rfl w idle,
    fun k => ⟨setBufferWord s.din k w, hostTransaction_writeWord (r := .din k) rfl w idle, fun j => ?_⟩⟩
  · rw [← writeReg_lenLo]
    exact hostTransaction_writeWord (r := .lenLo) rfl w idle
  · rw [← writeReg_lenHi]
    exact hostTransaction_writeWord (r := .lenHi) rfl w idle
  · simp [setBufferWord, lane]

/-! ### Values read -/

theorem readReg_lenLo (s : State) : readReg .lenLo s = BitVec.ofNat 32 (s.len.toNat % 2 ^ 32) := by
  apply BitVec.eq_of_toNat_eq
  simp [readReg]

theorem readReg_lenHi (s : State) : readReg .lenHi s = BitVec.ofNat 32 (s.len.toNat / 2 ^ 32) := by
  apply BitVec.eq_of_toNat_eq
  simp [readReg, Nat.shiftRight_eq_div_pow]

/-- R81: the bytes that the host reads in a word of a buffer. -/
theorem byte_of_bufferWord {n : Nat} (v : Vector Byte n) (k : Nat) (j : Fin 4) (h : 4 * k + j.val < n) :
    (bufferWord v k).extractLsb' (8 * j.val) 8 = v[4 * k + j.val] :=
  (lane_bufferWord v k j).trans (byteAt_of_lt v h)

/-- Settles O28: an exact read of a register, and then its value by the kind of register. -/
theorem readsAreExactAndSilent : Obligations.ReadsAreExactAndSilent := by
  unfold Obligations.ReadsAreExactAndSilent
  refine ⟨fun s r not_cmd specified => ?_, fun s => ⟨rfl, rfl, rfl, readReg_lenLo s, readReg_lenHi s,
    rfl, rfl, rfl, rfl, rfl, rfl, fun k => by simp [readReg, wordAt], fun k j => ⟨byte_of_bufferWord s.din k j _, byte_of_bufferWord s.dout k j _⟩,
    fun k j => byte_of_bufferWord s.blk k j _, fun k j => byte_of_bufferWord s.pad k j _⟩⟩
  rw [hostTransaction_readWord not_cmd, hostRead_exact specified]

/-! ### STATUS -/

/-- The fields of STATUS by their weights (R35). -/
theorem statusWord_toNat (s : State) : (statusWord s).toNat =
    s.busy.toNat + s.err.toNat * 2 + s.sv.toNat * 4 + s.padv.toNat * 8 + s.errcode.toNat * 16 := by
  have := s.busy.toNat_lt
  have := s.err.toNat_lt
  have := s.sv.toNat_lt
  have := s.padv.toNat_lt
  have := s.errcode.isLt
  rw [statusWord, BitVec.toNat_ofNat]
  omega

/-- A bit of a word, read off its value, is the flag of the same number. -/
theorem getLsbD_eq_flag {w : Word} {i : Nat} {flag : Bool} (h : w.toNat / 2 ^ i % 2 = flag.toNat) : w.getLsbD i = flag := by
  rw [BitVec.getLsbD, Nat.testBit_eq_decide_div_mod_eq, h]
  cases flag <;> rfl

theorem extractLsb'_eq_field {w : Word} {i n : Nat} {field : BitVec n} (h : w.toNat / 2 ^ i % 2 ^ n = field.toNat) :
    w.extractLsb' i n = field := by
  apply BitVec.eq_of_toNat_eq
  rw [BitVec.extractLsb'_toNat, Nat.shiftRight_eq_div_pow, h]

/-- Settles O31, from the weights of the fields. -/
theorem statusBitsAreTheFlags : Obligations.StatusBitsAreTheFlags := by
  unfold Obligations.StatusBitsAreTheFlags
  intro s
  have value := statusWord_toNat s
  have := s.busy.toNat_lt
  have := s.err.toNat_lt
  have := s.sv.toNat_lt
  have := s.padv.toNat_lt
  have := s.errcode.isLt
  refine ⟨?_, getLsbD_eq_flag (by omega), getLsbD_eq_flag (by omega), getLsbD_eq_flag (by omega),
    extractLsb'_eq_field (by omega), extractLsb'_eq_field ?_⟩
  · rw [show (statusWord s).getLsbD 0 = s.busy from getLsbD_eq_flag (by omega), State.busy_eq_true_iff]
  · simp only [BitVec.reduceToNat]
    omega

end Sys2Proof.Machine
end

section
/-! The core port: how many requests a command makes, that BLKCNT counts them, and what a request and an answer change
(R56, R83, R170, R281). -/

namespace Sys2Proof.Machine

/-! ### The number of requests -/

/-- R161: FILL counts the appended bytes modulo 64. -/
theorem appendByte_fill_toNat {s : State} (h : s.fill.toNat < 64) (b : Byte) :
    (appendByte b s).fill.toNat = (s.fill.toNat + 1) % 64 := by
  by_cases last : s.fill.toNat = 63
  · rw [appendByte_of_eq last, last]
    rfl
  · rw [appendByte_of_lt (by omega), storeByte_fill]
    bv_omega

/-- R161, R162: an appended byte makes a request exactly when it is the 64th of the block, and BLKCNT counts it. -/
theorem appendByte_blkcnt (b : Byte) (s : State) :
    (appendByte b s).blkcnt = s.blkcnt + if (storeByte b s).fill = 64 then 1 else 0 := by
  unfold appendByte
  split <;> simp

theorem appendRequests_cons_length (b : Byte) (bs : List Byte) (s : State) :
    (appendRequests (b :: bs) s).length =
      (if (storeByte b s).fill = 64 then 1 else 0) + (appendRequests bs (appendByte b s)).length := by
  rw [appendRequests]
  split <;> simp [Nat.add_comm]

/-- R170: one request for each block that the appended bytes complete. -/
theorem appendRequests_length (bs : List Byte) {s : State} (h : s.fill.toNat < 64) :
    (appendRequests bs s).length = (s.fill.toNat + bs.length) / 64 := by
  induction bs generalizing s with
  | nil => simp [appendRequests, Nat.div_eq_of_lt h]
  | cons b bs ih =>
    have fill := appendByte_fill_toNat h b
    have full : (storeByte b s).fill = 64 ↔ s.fill.toNat = 63 := by
      rw [storeByte_fill]
      bv_omega
    rw [appendRequests_cons_length, ih (by omega), fill, List.length_cons]
    simp only [full]
    split_ifs <;> omega

/-- R162: BLKCNT counts the requests modulo 2^32. -/
theorem appendBytes_blkcnt (bs : List Byte) (s : State) :
    (appendBytes bs s).blkcnt = s.blkcnt + BitVec.ofNat 32 (appendRequests bs s).length := by
  induction bs generalizing s with
  | nil => simp [appendBytes, appendRequests]
  | cons b bs ih =>
    rw [appendBytes, ih, appendByte_blkcnt, appendRequests_cons_length, BitVec.ofNat_add, BitVec.add_assoc]
    split <;> rfl

theorem pushedBytes_length {n : BitVec 3} (legal : countLegal n = true) (s : State) : (pushedBytes n s).length = n.toNat := by
  simp only [countLegal, Bool.and_eq_true, decide_eq_true_eq] at legal
  simp [pushedBytes, lanes, legal.2]

theorem paddingBytes_length {s : State} (h : s.padlen.toNat ≤ 72) : (paddingBytes s).length = s.padlen.toNat := by
  simp [paddingBytes, h]

/-- R166: a SEQ_FLUSH compresses a partial block once, and an empty one not at all. -/
theorem coreRequests_seqFlush_length (s : State) :
    (coreRequests .seqFlush s).length = if s.fill.toNat > 0 then 1 else 0 := by
  rw [coreRequests]
  split <;> rfl

theorem completeSeqFlush_blkcnt (s : State) :
    (completeSeqFlush s).blkcnt = s.blkcnt + BitVec.ofNat 32 (coreRequests .seqFlush s).length := by
  rw [coreRequests_seqFlush_length, completeSeqFlush]
  split <;> simp

/-- Settles O38: the invariant bounds FILL and PADLEN, and the requests are the blocks completed. -/
theorem compressionsAreBounded : Obligations.CompressionsAreBounded := by
  unfold Obligations.CompressionsAreBounded
  intro s inv
  have fill_lt := inv.fill_lt
  have padlen_le : s.padlen.toNat ≤ 72 := by
    have := inv.padlen_range
    omega
  have pushes (n : BitVec 3) (legal : countLegal n = true) :
      (coreRequests (.seqPush n) s).length = (s.fill.toNat + n.toNat) / 64 := by
    rw [coreRequests, appendRequests_length _ fill_lt, pushedBytes_length legal]
  have pads : (coreRequests .seqPushpad s).length = (s.fill.toNat + s.padlen.toNat) / 64 := by
    rw [coreRequests, appendRequests_length _ fill_lt, paddingBytes_length padlen_le]
  refine ⟨fun n legal => ⟨pushes n legal, ?_⟩, ?_, pads, by omega, ?_, ?_⟩
  · have := n.isLt
    rw [pushes n legal]
    omega
  · rw [coreRequests_seqFlush_length]
    split <;> omega
  · rintro i (rfl | rfl | rfl | rfl) <;> rfl
  · rintro i (⟨n, rfl⟩ | rfl | rfl)
    · exact appendBytes_blkcnt (pushedBytes n s) s
    · exact completeSeqFlush_blkcnt s
    · exact appendBytes_blkcnt (paddingBytes s) s

/-! ### Requests and answers -/

theorem sendRequest_of_next {s : State} {i : Instr} {r : CoreRequest} (slot : s.slot = some i) (free : s.core = none)
    (next : (coreRequests i s)[s.answered]? = some r) : sendRequest s = { s with core := some r } := by
  simp [sendRequest, slot, free, next]

theorem sendRequest_of_served {s : State} {i : Instr} (slot : s.slot = some i)
    (served : (coreRequests i s)[s.answered]? = none) : sendRequest s = s := by
  rcases sendRequest_cases s with same | ⟨j, r, slot', -, next, -⟩
  · exact same
  · cases slot.symm.trans slot'
    simp [served] at next

theorem sendRequest_of_idle_or_outstanding {s : State} (h : s.slot = none ∨ s.core ≠ none) : sendRequest s = s := by
  rcases sendRequest_cases s with same | ⟨j, r, slot, free, -, -⟩
  · exact same
  · simp [slot, free] at h

theorem acceptAnswer_of_no_request {s : State} (h : s.core = none) : acceptAnswer s = s := by
  simp [acceptAnswer, h]

/-- Settles O40: the cases of sending a request and of an answer. -/
theorem corePortHoldsOneRequest : Obligations.CorePortHoldsOneRequest := by
  unfold Obligations.CorePortHoldsOneRequest
  intro s
  refine ⟨fun i r slot free next => ?_, fun i slot served => ?_, fun h => ?_, fun r outstanding => ?_, fun h => ?_,
    rfl, rfl, rfl⟩
  · exact congrArg Host.Outcome.next (sendRequest_of_next slot free next)
  · exact congrArg Host.Outcome.next (sendRequest_of_served slot served)
  · exact congrArg Host.Outcome.next (sendRequest_of_idle_or_outstanding h)
  · exact congrArg Host.Outcome.next (acceptAnswer_of_core (by simp [outstanding]))
  · exact congrArg Host.Outcome.next (acceptAnswer_of_no_request h)

end Sys2Proof.Machine
end

section
/-! The memory map and the order of events (20_memory.md): each offset reaches at most one register, the accesses that the map
turns away, that every event completes, and the rounds of requests and answers that lead a command to its completion. -/

namespace Sys2Proof.Machine

/-! ### The map written out (R74) -/

/-- The reserved offsets are those of no register (R77). -/
theorem regAt_eq_none_iff {off : Offset} (aligned : off.toNat % 4 = 0) : regAt off = none ↔
    (0x030 ≤ off.toNat ∧ off.toNat < 0x040) ∨ (0x0A0 ≤ off.toNat ∧ off.toNat < 0x0C0) ∨ 0x148 ≤ off.toNat := by
  simp only [regAt, ite_eq_iff, dite_eq_iff, reduceCtorEq, and_false, exists_false, false_or, and_true, exists_prop]
  omega

theorem din_offset_toNat (k : Fin 8) : (Reg.offset (.din k)).toNat = 0x040 + 4 * k.val :=
  Nat.mod_eq_of_lt (by omega)

theorem dout_offset_toNat (k : Fin 8) : (Reg.offset (.dout k)).toNat = 0x060 + 4 * k.val :=
  Nat.mod_eq_of_lt (by omega)

theorem h_offset_toNat (k : Fin 8) : (Reg.offset (.h k)).toNat = 0x080 + 4 * k.val :=
  Nat.mod_eq_of_lt (by omega)

theorem blk_offset_toNat (k : Fin 16) : (Reg.offset (.blk k)).toNat = 0x0C0 + 4 * k.val :=
  Nat.mod_eq_of_lt (by omega)

theorem pad_offset_toNat (k : Fin 18) : (Reg.offset (.pad k)).toNat = 0x100 + 4 * k.val :=
  Nat.mod_eq_of_lt (by omega)

/-- CMD alone is written and never read. -/
theorem access_eq_wo_iff (r : Reg) : r.access = .wo ↔ r = .cmd := by
  cases r <;> simp [Reg.access]

/-- The operands are the registers that the host both writes and reads. -/
theorem access_eq_rw_iff (r : Reg) :
    r.access = .rw ↔ r = .lenLo ∨ r = .lenHi ∨ r = .diglen ∨ r = .data ∨ ∃ k, r = .din k := by
  cases r <;> simp [Reg.access]

/-- Settles O26, from the two directions of the map, the offsets of the windows and the access types. -/
theorem addressMapIsOneToOne : Obligations.AddressMapIsOneToOne := by
  unfold Obligations.AddressMapIsOneToOne
  exact ⟨fun r => ⟨offset_aligned r, regAt_offset r⟩, fun _ _ => offset_of_regAt,
    ⟨rfl, rfl, rfl, rfl, rfl, rfl, rfl, rfl, rfl, rfl, rfl, rfl⟩,
    fun k => ⟨din_offset_toNat k, dout_offset_toNat k, h_offset_toNat k⟩, blk_offset_toNat, pad_offset_toNat,
    fun _ => regAt_eq_none_iff, fun r => ⟨access_eq_wo_iff r, access_eq_rw_iff r⟩⟩

/-! ### Accesses turned away (R72, R73, R76, R77) -/

theorem hostTransaction_of_no_register {tr : Transaction} (h : ∀ r, checkAccess tr ≠ .reaches r) (s : State) :
    hostTransaction tr s = .next (badAccess tr s) := by
  unfold hostTransaction
  split
  · next r reached => exact absurd reached (h r)
  all_goals rfl

theorem typeAllows_of_reaches {tr : Transaction} {r : Reg} (h : checkAccess tr = .reaches r) :
    typeAllows r.access tr.kind = true := by
  rw [transaction_of_reaches h, checkAccess_at_offset] at h
  by_contra refused
  simp [refused] at h

/-- No register stands at a reserved offset (R77). -/
theorem offset_not_reserved (r : Reg) : ¬ ((0x030 ≤ r.offset.toNat ∧ r.offset.toNat < 0x040) ∨
    (0x0A0 ≤ r.offset.toNat ∧ r.offset.toNat < 0x0C0) ∨ 0x148 ≤ r.offset.toNat) := by
  rw [← regAt_eq_none_iff (offset_aligned r), regAt_offset]
  exact Option.some_ne_none r

/-- R77: CMD cannot be read. -/
theorem offset_ne_cmd_of_read {r : Reg} (h : typeAllows r.access .read = true) : r.offset.toNat ≠ 0x008 := by
  intro at_cmd
  have cmd : r.offset = Reg.offset .cmd := BitVec.eq_of_toNat_eq at_cmd
  have same : some r = some Reg.cmd := by rw [← regAt_offset r, cmd, regAt_offset]
  cases same
  cases h

/-- The offsets of the registers that the host cannot write (R76). -/
def ReadOnlyOffset (a : Nat) : Prop :=
  a ∈ ([0x000, 0x004, 0x00C, 0x018, 0x024, 0x028, 0x02C] : List Nat) ∨ (0x060 ≤ a ∧ a < 0x0A0) ∨ (0x0C0 ≤ a ∧ a < 0x148)

/-- R76: a register that takes a write is CMD or one of the RW registers, and none of those offsets is read-only. -/
theorem not_readOnlyOffset_of_write {r : Reg} {w : Word} (h : typeAllows r.access (.write w) = true) :
    ¬ ReadOnlyOffset r.offset.toNat := by
  cases r with
  | cmd | lenLo | lenHi | diglen | data => unfold ReadOnlyOffset; decide
  | din k =>
    simp only [ReadOnlyOffset, din_offset_toNat, List.mem_cons, List.not_mem_nil, or_false]
    omega
  | _ => cases h

/-- The access checks written out: what an access is whose checks R72 to R77 pass. -/
theorem access_of_reaches {tr : Transaction} {r : Reg} (h : checkAccess tr = .reaches r) :
    tr.size = .word ∧ tr.off.toNat % 4 = 0 ∧
      ¬ ((0x030 ≤ tr.off.toNat ∧ tr.off.toNat < 0x040) ∨ (0x0A0 ≤ tr.off.toNat ∧ tr.off.toNat < 0x0C0) ∨
        0x148 ≤ tr.off.toNat) ∧
      ¬ (tr.kind = .read ∧ tr.off.toNat = 0x008) ∧ ¬ (tr.kind ≠ .read ∧ ReadOnlyOffset tr.off.toNat) := by
  have allowed := typeAllows_of_reaches h
  have off : tr.off = r.offset := by rw [transaction_of_reaches h]
  rw [off]
  refine ⟨(checkAccess_reaches h).1, offset_aligned r, offset_not_reserved r, ?_, ?_⟩
  · rintro ⟨read, at_cmd⟩
    rw [read] at allowed
    exact offset_ne_cmd_of_read allowed at_cmd
  · rintro ⟨write, readOnly⟩
    cases kind : tr.kind with
    | read => exact write kind
    | write w =>
      rw [kind] at allowed
      exact not_readOnlyOffset_of_write allowed readOnly

theorem zextOffset_eq_ofNat (off : Offset) : zextOffset off = BitVec.ofNat 32 off.toNat :=
  (BitVec.ofNat_toNat 32 off).symm

theorem badAccess_of_read {tr : Transaction} (h : tr.kind = .read) (s : State) :
    badAccess tr s = { raise .badAccess (BitVec.ofNat 32 tr.off.toNat) s with rdata := 0 } := by
  simp only [badAccess, h, zextOffset_eq_ofNat]

theorem badAccess_of_write {tr : Transaction} (h : tr.kind ≠ .read) (s : State) :
    badAccess tr s = raise .badAccess (BitVec.ofNat 32 tr.off.toNat) s := by
  cases kind : tr.kind with
  | read => exact absurd kind h
  | write w => simp only [badAccess, kind, zextOffset_eq_ofNat]

/-- Settles O25: none of these accesses is one that reaches a register, so each is abandoned. -/
theorem badAccessesAreAbandoned : Obligations.BadAccessesAreAbandoned := by
  unfold Obligations.BadAccessesAreAbandoned
  intro s t a bad
  have unreached : ∀ r, checkAccess t ≠ .reaches r := by
    intro r reached
    obtain ⟨size, aligned, unreserved, readable, writable⟩ := access_of_reaches reached
    rcases bad with wrong_size | misaligned | low | mid | high | read_cmd | write_ro
    · exact wrong_size size
    · exact misaligned aligned
    · exact unreserved (.inl low)
    · exact unreserved (.inr (.inl mid))
    · exact unreserved (.inr (.inr high))
    · exact readable read_cmd
    · exact writable write_ro
  rw [hostTransaction_of_no_register unreached]
  exact ⟨fun read => congrArg Host.Outcome.next (badAccess_of_read read s),
    fun write => congrArg Host.Outcome.next (badAccess_of_write write s)⟩

/-! ### Every event completes (R84, R230) -/

theorem cmdWrite_next (w : Word) (s : State) : ∃ t, cmdWrite w s = .next t := by
  unfold cmdWrite
  split
  · next i _ => exact exec_next i s
  · exact ⟨_, rfl⟩

theorem hostWrite_next (r : Reg) (w : Word) (s : State) : ∃ t, hostWrite r w s = .next t := by
  by_cases h : r = .cmd
  · subst h
    exact cmdWrite_next w s
  · exact ⟨_, hostWrite_of_ne_cmd h w s⟩

theorem hostTransaction_next (tr : Transaction) (s : State) : ∃ t, hostTransaction tr s = .next t := by
  unfold hostTransaction
  split
  · next r _ =>
    split
    · exact ⟨_, rfl⟩
    · next w _ => exact hostWrite_next r w s
  all_goals exact ⟨_, rfl⟩

theorem handleEvent_next (e : Event) (s : State) : ∃ t, handleEvent e s = .next t := by
  cases e with
  | host tr => exact hostTransaction_next tr s
  | _ => exact ⟨_, rfl⟩

/-- Settles O6: with no event to come the state stays, and every event is handled to its end. -/
theorem everyStepGivesANextState : Obligations.EveryStepGivesANextState := by
  unfold Obligations.EveryStepGivesANextState
  intro s
  cases he : s.events with
  | nil => exact ⟨s, step_of_no_events he⟩
  | cons e rest =>
    rw [step_of_events he]
    exact handleEvent_next e _

/-! ### The completion event (R85, R105) -/

theorem takeCompletion_of_answered {s : State} {i : Instr} (slot : s.slot = some i)
    (answered : (coreRequests i s).length ≤ s.answered) : takeCompletion s = retire (completionEffect i s) := by
  simp [takeCompletion, served_of_slot slot, answered, completionStep_of_slot slot]

theorem takeCompletion_of_empty {s : State} (h : s.slot = none) : takeCompletion s = s := by
  simp [takeCompletion, h, completionStep_of_empty]

/-- Settles O5: the event is taken off the list, which the requests of the command in flight do not depend on. -/
theorem stepTakesTheNextEvent : Obligations.StepTakesTheNextEvent := by
  unfold Obligations.StepTakesTheNextEvent
  intro s rest
  have requests (i : Instr) : coreRequests i { s with events := rest } = coreRequests i s :=
    (InFlightKept.of_events s rest).coreRequests_eq i
  refine ⟨step_of_no_events, fun _ => step_of_events, fun i he slot answered => ?_, fun i he slot waits => ?_,
    fun he idle => ?_, step_of_events⟩ <;>
    refine (step_of_events he).trans (congrArg Host.Outcome.next ?_)
  · exact takeCompletion_of_answered slot (by rwa [requests])
  · exact takeCompletion_of_unserved (by simpa [served_of_slot slot] using waits)
  · exact takeCompletion_of_empty idle

/-! ### The chain of requests (R83, R162, R170) -/

/-- The requests lead the chaining state from the first one given to the second: each request carries the state of its moment,
and COMPRESS's answer to it is the state for the next. -/
inductive RequestChain : ChainState → List CoreRequest → ChainState → Prop
  | nil (h : ChainState) : RequestChain h [] h
  | cons {h h' : ChainState} {blk : Block} {rs : List CoreRequest} (rest : RequestChain (Config.compress h blk) rs h') :
      RequestChain h (⟨h, blk⟩ :: rs) h'

section
variable {h h' : ChainState} {rs : List CoreRequest}

theorem RequestChain.head (chain : RequestChain h rs h') {r : CoreRequest} (first : rs[0]? = some r) : r.h = h := by
  cases chain with
  | nil => cases first
  | cons => cases first; rfl

theorem RequestChain.next (chain : RequestChain h rs h') {k : Nat} {r q : CoreRequest} (current : rs[k]? = some r)
    (next : rs[k + 1]? = some q) : q.h = Config.compress r.h r.blk := by
  induction chain generalizing k with
  | nil => cases current
  | cons rest ih =>
    cases k with
    | zero =>
      cases current
      exact rest.head next
    | succ k => exact ih current next

theorem RequestChain.eq_of_nil (chain : RequestChain h [] h') : h' = h := by
  cases chain
  rfl

theorem RequestChain.last (chain : RequestChain h rs h') {r : CoreRequest} (last : rs.getLast? = some r) :
    h' = Config.compress r.h r.blk := by
  induction chain with
  | nil => cases last
  | @cons h h' blk rs rest ih =>
    cases rs with
    | nil =>
      cases last
      exact rest.eq_of_nil
    | cons q qs => exact ih (by rwa [List.getLast?_cons_cons] at last)

end

/-- R161, R162: appending bytes makes one request for each block that fills up, and the answer to it becomes H. -/
theorem appendRequests_chain (bs : List Byte) (s : State) : RequestChain s.h (appendRequests bs s) (appendBytes bs s).h := by
  induction bs generalizing s with
  | nil => exact .nil s.h
  | cons b bs ih =>
    have rest := ih (appendByte b s)
    by_cases full : (storeByte b s).fill = 64
    · have answer : (appendByte b s).h = Config.compress s.h (storeByte b s).blk := by
        simp only [appendByte, if_pos full, blockStep_h, storeByte_h]
      rw [answer] at rest
      rw [appendRequests, if_pos full]
      exact .cons rest
    · have same : (appendByte b s).h = s.h := by simp only [appendByte, if_neg full, storeByte_h]
      rw [same] at rest
      rw [appendRequests, if_neg full]
      exact rest

/-- R166: a partial block is the one request of SEQ_FLUSH. -/
theorem coreRequests_seqFlush_chain (s : State) : RequestChain s.h (coreRequests .seqFlush s) (completeSeqFlush s).h := by
  rw [coreRequests, completeSeqFlush]
  split
  · exact .cons (.nil _)
  · exact .nil s.h

/-- Settles O39: the requests of each stream command are a chain from H to the H that its completion leaves. -/
theorem requestsChainThroughTheCore : Obligations.RequestsChainThroughTheCore := by
  unfold Obligations.RequestsChainThroughTheCore
  intro s i stream
  have chain : RequestChain s.h (coreRequests i s) (completionEffect i s).h := by
    rcases stream with ⟨n, rfl⟩ | rfl | rfl
    · exact appendRequests_chain (pushedBytes n s) s
    · exact coreRequests_seqFlush_chain s
    · exact appendRequests_chain (paddingBytes s) s
  refine ⟨fun _ => chain.head, fun _ _ _ => chain.next, fun _ => chain.last, fun none_made => ?_⟩
  rw [none_made] at chain
  exact chain.eq_of_nil

/-! ### Rounds of a request and its answer (R83, R105) -/

/-- The state with the counter of answers at `n`. -/
def setAnswered (n : Nat) (s : State) : State := { s with answered := n }

/-- The requests of a command do not depend on how many are answered. -/
@[simp] theorem coreRequests_setAnswered (i : Instr) (n : Nat) (s : State) :
    coreRequests i (setAnswered n s) = coreRequests i s :=
  InFlightKept.coreRequests_eq (s := s) (t := setAnswered n s) rfl i

/-- One round, of a command with a request left. -/
theorem acceptAnswer_sendRequest {s : State} {i : Instr} (slot : s.slot = some i) (free : s.core = none)
    (left : s.answered < (coreRequests i s).length) :
    acceptAnswer (sendRequest s) = setAnswered (s.answered + 1) s := by
  rw [sendRequest_of_next slot free (List.getElem?_eq_getElem left), acceptAnswer_of_core (Option.some_ne_none _), ← free]
  rfl

/-- As many rounds as there are requests left answer them all. -/
theorem serveCore_of_left (n : Nat) {s : State} {i : Instr} (slot : s.slot = some i) (free : s.core = none)
    (left : s.answered + n = (coreRequests i s).length) :
    serveCore n s = setAnswered (coreRequests i s).length s := by
  induction n generalizing s with
  | zero =>
    rw [← left]
    rfl
  | succ n ih =>
    have one_less : s.answered + 1 + n = (coreRequests i (setAnswered (s.answered + 1) s)).length := by
      rw [coreRequests_setAnswered]
      omega
    rw [serveCore, acceptAnswer_sendRequest slot free (by omega), ih (s := setAnswered (s.answered + 1) s) slot free one_less,
      coreRequests_setAnswered]
    rfl

/-! No effect of a command depends on the counter of answers. -/

section
variable (n : Nat) (s : State)

theorem appendByte_setAnswered (b : Byte) : appendByte b (setAnswered n s) = setAnswered n (appendByte b s) := by
  unfold appendByte
  rw [apply_ite (setAnswered n)]
  rfl

theorem appendBytes_setAnswered (bs : List Byte) : appendBytes bs (setAnswered n s) = setAnswered n (appendBytes bs s) := by
  induction bs generalizing s with
  | nil => rfl
  | cons b bs ih => rw [appendBytes, appendByte_setAnswered, ih, appendBytes]

theorem completeSeqFlush_setAnswered : completeSeqFlush (setAnswered n s) = setAnswered n (completeSeqFlush s) := by
  unfold completeSeqFlush
  rw [apply_ite (setAnswered n)]
  rfl

theorem completionEffect_setAnswered (i : Instr) :
    completionEffect i (setAnswered n s) = setAnswered n (completionEffect i s) := by
  cases i with
  | seqPush count => exact appendBytes_setAnswered n s (pushedBytes count s)
  | seqFlush => exact completeSeqFlush_setAnswered n s
  | seqPushpad => exact appendBytes_setAnswered n s (paddingBytes s)
  | _ => rfl

end

/-- Settles O41: the rounds answer every request, and the effect that then comes does not depend on the counter. -/
theorem answeredCommandCompletes : Obligations.AnsweredCommandCompletes := by
  unfold Obligations.AnsweredCommandCompletes
  intro s i slot free none_answered
  have rounds := serveCore_of_left (coreRequests i s).length slot free (by omega)
  have completes := takeCompletion_of_answered (s := setAnswered (coreRequests i s).length s) slot
    (by rw [coreRequests_setAnswered]; rfl)
  refine ⟨rounds, congrArg Host.Outcome.next ?_⟩
  rw [rounds, completes, completionEffect_setAnswered]
  rfl

end Sys2Proof.Machine
end

section
/-! Command words (R100 to R107): the decoder accepts exactly the words of well-formed commands, which are the legal words of
R102, and what the CMD write of an illegal word does. -/

namespace Sys2Proof.Machine

/-! ### Decoding and encoding -/

/-- The opcode map names each command by its own opcode and count (R101). -/
theorem commandOfOpcode_opcodeOf (i : Instr) : commandOfOpcode (opcodeOf i) (countOf i) = some i := by
  cases i <;> rfl

/-- The converse of `decode_ok_fields`: a word with these fields is accepted (R102). -/
theorem decode_of_fields {w : Word} {i : Instr} (named : commandOfOpcode (opField w) (nField w) = some i)
    (rsv : rsvField w = 0) (wf : i.wf = true) (count : nField w = countOf i) : decode w = .ok i := by
  unfold decode
  rw [named]
  cases i with
  | seqPush n =>
    have legal : countLegal n = true := wf
    simp [rsv, legal]
  | _ => simpa [rsv, countOf] using count

theorem commandOfOpcode_encode (i : Instr) : commandOfOpcode (opField (encode i)) (nField (encode i)) = some i := by
  obtain ⟨opcode, count, -⟩ := encode_fields i
  rw [opcode, count, commandOfOpcode_opcodeOf]

/-- No two commands share a word, well formed or not (R106). -/
theorem encode_inj {i j : Instr} (h : encode i = encode j) : i = j := by
  have named := commandOfOpcode_encode i
  rw [h, commandOfOpcode_encode j] at named
  exact (Option.some.inj named).symm

/-- R101, R106: decoding undoes encoding on the well-formed commands. -/
theorem decode_encode {i : Instr} (wf : i.wf = true) : decode (encode i) = .ok i := by
  obtain ⟨-, count, rsv⟩ := encode_fields i
  exact decode_of_fields (commandOfOpcode_encode i) rsv wf count

theorem decode_ok_iff {w : Word} {i : Instr} : decode w = .ok i ↔ i.wf = true ∧ encode i = w := by
  constructor
  · intro h
    obtain ⟨-, -, wf, -⟩ := decode_ok_fields h
    exact ⟨wf, encode_of_decode h⟩
  · rintro ⟨wf, rfl⟩
    exact decode_encode wf

/-- Settles O1: decoding undoes encoding, and a word that decodes has the three fields of its command's word. -/
theorem decodeAndEncodeAgree : Obligations.DecodeAndEncodeAgree := by
  unfold Obligations.DecodeAndEncodeAgree
  exact ⟨fun _ wf => decode_encode wf, fun _ _ h => decode_ok_iff.1 h⟩

/-- Settles O3: each word is, by evaluation, the word of its well-formed command. -/
theorem writtenOutWordsDecode : Obligations.WrittenOutWordsDecode := by
  unfold Obligations.WrittenOutWordsDecode
  exact ⟨decode_encode (i := .nop) rfl, decode_encode (i := .softReset) rfl, decode_encode (i := .clrErr) rfl,
    decode_encode (i := .padGen) rfl, decode_encode (i := .stDecode) rfl, decode_encode (i := .stEncode) rfl,
    decode_encode (i := .seqClear) rfl, decode_encode (i := .seqPush 1) rfl, decode_encode (i := .seqPush 4) rfl,
    decode_encode (i := .seqFlush) rfl, decode_encode (i := .seqPushpad) rfl⟩

/-! ### Legal words -/

/-- w[31:8] is RSV over N. -/
theorem n_rsv_of_upper_zero {w : Word} (h : w.extractLsb' 8 24 = 0) : nField w = 0 ∧ rsvField w = 0 := by
  have upper : w.toNat / 2 ^ 8 % 2 ^ 24 = 0 := by
    simpa [BitVec.extractLsb'_toNat, Nat.shiftRight_eq_div_pow] using congrArg BitVec.toNat h
  constructor <;> apply BitVec.eq_of_toNat_eq <;>
    simp only [nField, rsvField, BitVec.extractLsb'_toNat, Nat.shiftRight_eq_div_pow, BitVec.ofNat_eq_ofNat,
      BitVec.toNat_ofNat] <;>
    omega

/-- The opcodes that R102 allows with w[31:8] = 0 are those of the commands without a count. -/
theorem command_of_plain_opcode {op : BitVec 8}
    (h : op ∈ ([0x00, 0x01, 0x02, 0x10, 0x20, 0x21, 0x30, 0x32, 0x33] : List (BitVec 8))) :
    ∃ i : Instr, commandOfOpcode op 0 = some i ∧ i.wf = true ∧ countOf i = 0 := by
  simp only [List.mem_cons, List.not_mem_nil, or_false] at h
  rcases h with rfl | rfl | rfl | rfl | rfl | rfl | rfl | rfl | rfl
  · exact ⟨.nop, rfl, rfl, rfl⟩
  · exact ⟨.softReset, rfl, rfl, rfl⟩
  · exact ⟨.clrErr, rfl, rfl, rfl⟩
  · exact ⟨.padGen, rfl, rfl, rfl⟩
  · exact ⟨.stDecode, rfl, rfl, rfl⟩
  · exact ⟨.stEncode, rfl, rfl, rfl⟩
  · exact ⟨.seqClear, rfl, rfl, rfl⟩
  · exact ⟨.seqFlush, rfl, rfl, rfl⟩
  · exact ⟨.seqPushpad, rfl, rfl, rfl⟩

theorem countLegal_iff_mem (n : BitVec 3) : countLegal n = true ↔ n ∈ ([1, 2, 3, 4] : List (BitVec 3)) := by
  revert n; decide

theorem decodes_of_legalWord {w : Word} (h : LegalWord w) : ∃ i, decode w = .ok i := by
  rcases h with ⟨opcode, upper⟩ | ⟨opcode, rsv, count⟩
  · obtain ⟨n_zero, rsv⟩ := n_rsv_of_upper_zero upper
    obtain ⟨i, named, wf, no_count⟩ := command_of_plain_opcode opcode
    refine ⟨i, decode_of_fields ?_ rsv wf (n_zero.trans no_count.symm)⟩
    rw [n_zero]
    exact named
  · refine ⟨.seqPush (nField w), decode_of_fields ?_ rsv ((countLegal_iff_mem _).2 count) rfl⟩
    rw [show opField w = 0x31 from opcode]
    rfl

theorem legalWord_encode {i : Instr} (wf : i.wf = true) : LegalWord (encode i) := by
  cases i with
  | seqPush n =>
    obtain ⟨opcode, count, rsv⟩ := encode_fields (.seqPush n)
    refine .inr ⟨opcode, rsv, ?_⟩
    rw [show (encode (.seqPush n)).extractLsb' 8 3 = n from count]
    exact (countLegal_iff_mem n).1 wf
  | _ => exact .inl (by decide)

theorem decodes_iff_legalWord (w : Word) : (∃ i, decode w = .ok i) ↔ LegalWord w := by
  refine ⟨?_, decodes_of_legalWord⟩
  rintro ⟨i, h⟩
  obtain ⟨wf, rfl⟩ := decode_ok_iff.1 h
  exact legalWord_encode wf

/-- The word of a command is as legal as the command is well formed. -/
theorem legalWord_encode_iff (i : Instr) : LegalWord (encode i) ↔ i.wf = true := by
  refine ⟨fun legal => ?_, legalWord_encode⟩
  obtain ⟨j, h⟩ := decodes_of_legalWord legal
  obtain ⟨wf, same⟩ := decode_ok_iff.1 h
  exact encode_inj same ▸ wf

theorem rejected_of_not_legalWord {w : Word} (illegal : ¬ LegalWord w) : ∃ why, decode w = .reject why := by
  cases h : decode w with
  | ok i => exact absurd ((decodes_iff_legalWord w).1 ⟨i, h⟩) illegal
  | reject why => exact ⟨why, rfl⟩

/-- R102, R231: an illegal word written to CMD while BUSY = 0 is ILLEGAL_COMMAND, with the lock or without it. -/
theorem hostTransaction_of_illegal {w : Word} {s : State} (illegal : ¬ LegalWord w) (idle : s.slot = none) :
    hostTransaction (cmdTransaction w) s = .next (raise .illegalCommand w s) := by
  obtain ⟨why, rejected⟩ := rejected_of_not_legalWord illegal
  simp [hostTransaction_cmdTransaction, cmdWrite, rejected, whenIdle_of_idle idle]

/-- Settles O2: a legal word has the fields of a well-formed command, and the words of well-formed commands are legal. -/
theorem exactlyTheLegalWordsDecode : Obligations.ExactlyTheLegalWordsDecode := by
  unfold Obligations.ExactlyTheLegalWordsDecode
  exact ⟨decodes_iff_legalWord, fun _ _ illegal idle => hostTransaction_of_illegal illegal idle⟩

/-! ### SEQ_PUSH with an illegal count -/

theorem exec_seqPush_of_illegal_count {n : BitVec 3} (illegal : countLegal n = false) {s : State} (idle : s.slot = none) :
    exec (.seqPush n) s = .next (raise .illegalCommand (encode (.seqPush n)) s) := by
  simp [exec, execSeqPush, whenIdle_of_idle idle, illegal]

/-- Settles O22: the word of such a count is no legal word, and exec checks the count before the lock and SV. -/
theorem illegalCountIsRejected : Obligations.IllegalCountIsRejected := by
  unfold Obligations.IllegalCountIsRejected
  intro s n idle count
  have illegal : countLegal n = false := by rcases count with rfl | rfl | rfl | rfl <;> rfl
  have not_legal : ¬ LegalWord (encode (.seqPush n)) := by simp [legalWord_encode_iff, Instr.wf, illegal]
  exact ⟨hostTransaction_of_illegal not_legal idle, rfl, exec_seqPush_of_illegal_count illegal idle,
    rejected_of_not_legalWord not_legal⟩

end Sys2Proof.Machine
end

section
/-! The byte-stream commands: the checks of SV and PADV at issue (R104, R239), and the frame of their completions (R106). -/

namespace Sys2Proof.Machine

/-! ### NO_STATE and NO_PAD -/

theorem exec_seqPush_of_legal_count {n : BitVec 3} (legal : countLegal n = true) (s : State) :
    exec (.seqPush n) s = .next (whenIdle (whenUnlocked (requireState (.seqPush n) (issue (.seqPush n)))) s) := by
  simp only [exec, execSeqPush, legal, if_true]

/-- R104: the check of SV comes after those of BUSY and of the lock, and its error changes nothing but the record. -/
theorem checks_answer_noState {s : State} (idle : s.slot = none) (unlocked : s.err = false) (no_state : s.sv = false)
    (i : Instr) (act : State → State) : whenIdle (whenUnlocked (requireState i act)) s =
      { s with err := true, errcode := 6, errinfo := encode i } := by
  rw [whenIdle_of_idle idle, whenUnlocked_of_noErr unlocked, requireState_of_noSv no_state, raise_of_noErr unlocked]
  rfl

/-- Settles O21: the four commands share the check of SV, and SEQ_PUSHPAD's check of PADV comes after it. -/
theorem noStateThenNoPad : Obligations.NoStateThenNoPad := by
  unfold Obligations.NoStateThenNoPad
  intro s idle unlocked
  constructor
  · intro no_state i needs_state
    have answer := checks_answer_noState idle unlocked no_state i
    rcases needs_state with rfl | ⟨n, legal, rfl⟩ | rfl | rfl
    · exact congrArg Host.Outcome.next (answer _)
    · rw [exec_seqPush_of_legal_count legal, answer]
    · exact congrArg Host.Outcome.next (answer _)
    · exact congrArg Host.Outcome.next (answer _)
  · intro state no_pad
    simp only [exec, execSeqPushpad, whenIdle_of_idle idle, whenUnlocked_of_noErr unlocked, requireState_of_sv state, no_pad,
      raise_of_noErr unlocked]
    rfl

/-! ### The frame of the completions -/

/-- Settles O46: field by field, no completion of the three writes another field, and `retire` clears the slot and core fields. -/
theorem streamCompletionFrame : Obligations.StreamCompletionFrame := by
  unfold Obligations.StreamCompletionFrame
  intro i s stream slot
  rw [completionStep_of_slot slot]
  rcases stream with ⟨n, rfl⟩ | rfl | rfl <;> simp [completionEffect, retire]

end Sys2Proof.Machine
end

section
/-! The Padding Calculator: the parts of the padding and their lengths (R121, R124), and PAD_GEN's issue, refusal and completion
(R122, R123). -/

namespace Sys2Proof.Machine

/-! ### The padding function -/

@[simp] theorem be64_length (v : BitVec 64) : (be64 v).length = 8 := rfl

/-- `fromBE64` undoes `BE64` (R18): the eight bytes are the digits of the value in base 256. -/
theorem fromBe_be64 (v : BitVec 64) : fromBe (be64 v) = v.toNat := by
  have bound := v.isLt
  simp only [fromBe, be64, List.foldl_cons, List.foldl_nil, BitVec.extractLsb'_toNat, Nat.shiftRight_eq_div_pow]
  omega

/-- What stands before the trailer: 0x80 and the zeros (R121). -/
theorem take_padding (n : Nat) :
    (padding n).take ((padding n).length - 8) = 0x80 :: List.replicate (zeroCount n) 0 := by
  simp [padding]

/-- The trailer: the last eight bytes (R121). -/
theorem drop_padding (n : Nat) :
    (padding n).drop ((padding n).length - 8) = be64 (BitVec.ofNat 64 (n * 8)) := by
  simp [padding]

theorem zeroCount_of_mod_le {n : Nat} (h : n % 64 ≤ 55) : zeroCount n = 55 - n % 64 := by
  rw [zeroCount, if_neg (by omega)]
  omega

/-- With 56 bytes or more in the last block the trailer goes to a block of its own. -/
theorem zeroCount_of_le_mod {n : Nat} (h : 56 ≤ n % 64) : zeroCount n = 119 - n % 64 := by
  unfold zeroCount
  split_ifs <;> omega

theorem padding_length_of_mod_le {n : Nat} (h : n % 64 ≤ 55) : (padding n).length = 64 - n % 64 := by
  rw [padding_length, zeroCount_of_mod_le h]
  omega

theorem padding_length_of_le_mod {n : Nat} (h : 56 ≤ n % 64) : (padding n).length = 128 - n % 64 := by
  rw [padding_length, zeroCount_of_le_mod h]
  omega

/-- R124 (a): the message and its padding are whole blocks. -/
theorem add_padding_length_mod (n : Nat) : (n + (padding n).length) % 64 = 0 := by
  rcases Nat.lt_or_ge (n % 64) 56 with h | h
  · rw [padding_length_of_mod_le (Nat.le_of_lt_succ h)]
    omega
  · rw [padding_length_of_le_mod h]
    omega

/-- R124 (c): for an accepted length the bit count fits the trailer. -/
theorem fromBe_padding_trailer {n : Nat} (accepted : n < 2 ^ 61) :
    fromBe ((padding n).drop ((padding n).length - 8)) = 8 * n := by
  rw [drop_padding, fromBe_be64, BitVec.toNat_ofNat]
  omega

/-- Settles O33: the padding is taken apart into the bytes before its trailer and the trailer, and its length is the number of
zeros and 9. -/
theorem paddingHasItsProperties : Obligations.PaddingHasItsProperties := by
  unfold Obligations.PaddingHasItsProperties
  intro n accepted
  have length := padding_length n
  have zeros := zeroCount_lt n
  refine ⟨add_padding_length_mod n, rfl, fromBe_padding_trailer accepted, ?_, padding_length_of_mod_le,
    padding_length_of_le_mod, by omega, by omega, ?_, by omega⟩
  · rw [take_padding]
    exact fun b hb => List.eq_of_mem_replicate hb
  · rw [take_padding, List.length_cons, List.length_replicate]
    omega

/-! ### PAD_GEN -/

section
variable {s : State} (idle : s.slot = none) (unlocked : s.err = false)
include idle unlocked

theorem exec_padGen_of_accepted (accepted : s.len.toNat < lengthLimit) : exec .padGen s = .next (issue .padGen s) := by
  simp only [exec, execPadGen, whenIdle_of_idle idle, whenUnlocked_of_noErr unlocked, if_neg (Nat.not_le.2 accepted)]

/-- R123: the error's code is 2 and its info is PAD_GEN's own word. -/
theorem exec_padGen_of_overflow (overflow : lengthLimit ≤ s.len.toNat) : exec .padGen s =
    .next { s with err := true, errcode := 2, errinfo := 0x00000010, padv := false } := by
  simp only [exec, execPadGen, whenIdle_of_idle idle, whenUnlocked_of_noErr unlocked, if_pos overflow,
    raise_of_noErr unlocked]
  rfl

end

/-- Settles O11: LEN is accepted at issue, and the completion step is `completePadGen` and `retire`. -/
theorem padGenComputesThePadding : Obligations.PadGenComputesThePadding := by
  unfold Obligations.PadGenComputesThePadding
  intro s idle unlocked accepted
  refine ⟨exec_padGen_of_accepted idle unlocked accepted, (completePadGen s).pad, fun j => by simp, ?_⟩
  rw [completionStep_of_slot rfl]
  simp [completionEffect, retire, idle]

/-- R42, R123: LEN_HI[31:29] is the top three bits of LEN, which are its quotient by 2^61. -/
theorem lenHi_top_bits_toNat (s : State) : ((readReg .lenHi s).extractLsb' 29 3).toNat = s.len.toNat / 2 ^ 61 := by
  have bound := s.len.isLt
  rw [readReg_lenHi, BitVec.extractLsb'_toNat, BitVec.toNat_ofNat, Nat.shiftRight_eq_div_pow]
  omega

/-- Settles O20: the bits tested are the quotient of LEN by 2^61, and exec refuses the length before it issues anything. -/
theorem lengthOverflowClearsPadv : Obligations.LengthOverflowClearsPadv := by
  unfold Obligations.LengthOverflowClearsPadv
  intro s
  refine ⟨?_, exec_padGen_of_overflow⟩
  rw [Ne, ← BitVec.toNat_inj, lenHi_top_bits_toNat, show (0 : BitVec 3).toNat = 0 from rfl]
  omega

end Sys2Proof.Machine
end

section
/-! The State Codec (42_state_codec.md): decode and encode undo each other (R141, R144), and the issue, refusal and completion of
ST_DECODE and ST_ENCODE (R142, R143, R145). -/

namespace Sys2Proof.Machine

/-! ### BE32 is LANES in the opposite order (R18) -/

theorem be32Byte_eq_lane (w : Word) (j : Nat) : be32Byte w j = lane w (3 - j) := by
  rw [be32Byte, lane, Nat.mul_sub]

theorem fromBe32_eq_fromLanes (b0 b1 b2 b3 : Byte) : fromBe32 b0 b1 b2 b3 = fromLanes b3 b2 b1 b0 := by
  rw [fromBe32, fromLanes]
  congr 1
  omega

/-- `fromBE32` undoes `BE32`. -/
theorem fromBe32_be32Byte (w : Word) :
    fromBe32 (be32Byte w 0) (be32Byte w 1) (be32Byte w 2) (be32Byte w 3) = w := by
  simp only [fromBe32_eq_fromLanes, be32Byte_eq_lane, Nat.reduceSub, fromLanes_lane]

/-- `BE32` undoes `fromBE32`. -/
theorem be32Byte_fromBe32 (b0 b1 b2 b3 : Byte) :
    be32Byte (fromBe32 b0 b1 b2 b3) 0 = b0 ∧ be32Byte (fromBe32 b0 b1 b2 b3) 1 = b1 ∧
      be32Byte (fromBe32 b0 b1 b2 b3) 2 = b2 ∧ be32Byte (fromBe32 b0 b1 b2 b3) 3 = b3 := by
  obtain ⟨lane0, lane1, lane2, lane3⟩ := lane_fromLanes b3 b2 b1 b0
  simp only [fromBe32_eq_fromLanes, be32Byte_eq_lane]
  exact ⟨lane3, lane2, lane1, lane0⟩

/-! ### decode and encode (R141, R144) -/

theorem wordAt_of_lt {i : Nat} (h : ChainState) (lt : i < 8) : wordAt h i = h[i] := by
  simp [wordAt, lt]

/-- R141: the bytes of an encoded state are those of its words. -/
theorem byteAt_encodeState (h : ChainState) {i j : Nat} (word_lt : i < 8) (byte_lt : j < 4) :
    byteAt (encodeState h) (4 * i + j) = be32Byte h[i] j := by
  have word : (4 * i + j) / 4 = i := by omega
  have byte : (4 * i + j) % 4 = j := by omega
  rw [byteAt_of_lt _ (by omega)]
  simp [encodeState, word, byte, wordAt_of_lt h word_lt]

/-- R141: the words of a decoded digest. -/
theorem getElem_decodeState (d : Digest) {i : Nat} (lt : i < 8) : (decodeState d)[i] =
    fromBe32 (byteAt d (4 * i)) (byteAt d (4 * i + 1)) (byteAt d (4 * i + 2)) (byteAt d (4 * i + 3)) := by
  rw [decodeState, Vector.getElem_ofFn]

/-- R141: the bytes of the words of a decoded digest are the digest's own. -/
theorem be32Byte_decodeState (d : Digest) {i j : Nat} (word_lt : i < 8) (byte_lt : j < 4) :
    be32Byte (decodeState d)[i] j = byteAt d (4 * i + j) := by
  obtain ⟨byte0, byte1, byte2, byte3⟩ := be32Byte_fromBe32 (byteAt d (4 * i)) (byteAt d (4 * i + 1))
    (byteAt d (4 * i + 2)) (byteAt d (4 * i + 3))
  rw [getElem_decodeState]
  match j with
  | 0 => exact byte0
  | 1 => exact byte1
  | 2 => exact byte2
  | 3 => exact byte3

/-- R144: byte k of the encoded state is byte k % 4 of its word k / 4. -/
theorem encodeState_decodeState (d : Digest) : encodeState (decodeState d) = d := by
  refine Vector.ext fun k lt => ?_
  have word_lt : k / 4 < 8 := by omega
  have byte_lt : k % 4 < 4 := Nat.mod_lt k (by decide)
  calc (encodeState (decodeState d))[k]
    _ = byteAt (encodeState (decodeState d)) (4 * (k / 4) + k % 4) := by rw [Nat.div_add_mod, byteAt_of_lt _ lt]
    _ = byteAt d (4 * (k / 4) + k % 4) := by
      rw [byteAt_encodeState _ word_lt byte_lt, be32Byte_decodeState d word_lt byte_lt]
    _ = d[k] := by rw [Nat.div_add_mod, byteAt_of_lt d lt]

/-- R144: each word is put together again from its four bytes. -/
theorem decodeState_encodeState (h : ChainState) : decodeState (encodeState h) = h := by
  refine Vector.ext fun i lt => ?_
  have byte {j : Nat} (byte_lt : j < 4) := byteAt_encodeState h lt byte_lt
  have byte0 := byte (show 0 < 4 by decide)
  rw [Nat.add_zero] at byte0
  rw [getElem_decodeState _ lt, byte0, byte (show 1 < 4 by decide), byte (show 2 < 4 by decide),
    byte (show 3 < 4 by decide), fromBe32_be32Byte]

theorem completionStep_stDecode_h {s : State} (slot : s.slot = some .stDecode) :
    (completionStep s).h = decodeState s.din := by
  simp [completionStep_of_slot slot, completionEffect]

theorem completionStep_stEncode_dout {s : State} (slot : s.slot = some .stEncode) :
    (completionStep s).dout = encodeState s.h := by
  simp [completionStep_of_slot slot, completionEffect]

/-- Settles O34: the two laws make each function the other's inverse, and the first is what ST_DECODE, then ST_ENCODE do. -/
theorem codecRoundTrips : Obligations.CodecRoundTrips := by
  unfold Obligations.CodecRoundTrips
  refine ⟨encodeState_decodeState, decodeState_encodeState,
    Function.bijective_iff_has_inverse.2 ⟨encodeState, encodeState_decodeState, decodeState_encodeState⟩,
    Function.bijective_iff_has_inverse.2 ⟨decodeState, decodeState_encodeState, encodeState_decodeState⟩, ?_⟩
  intro s t decoding encoding h_kept
  calc (completionStep t).dout = encodeState t.h := completionStep_stEncode_dout encoding
    _ = encodeState (decodeState s.din) := by rw [h_kept, completionStep_stDecode_h decoding]
    _ = s.din := encodeState_decodeState s.din

/-! ### The CMD writes of ST_DECODE and ST_ENCODE -/

section
variable {s : State} (idle : s.slot = none) (unlocked : s.err = false)
include idle unlocked

theorem exec_stDecode_of_length (length : s.diglen = 32) : exec .stDecode s = .next (issue .stDecode s) := by
  simp only [exec, execStDecode, whenIdle_of_idle idle, whenUnlocked_of_noErr unlocked, if_neg (not_not.2 length)]

/-- R143: the error's code is 1 and its info is ST_DECODE's own word. -/
theorem exec_stDecode_of_malformed (malformed : s.diglen ≠ 32) : exec .stDecode s =
    .next { s with err := true, errcode := 1, errinfo := 0x00000020, sv := false } := by
  simp only [exec, execStDecode, whenIdle_of_idle idle, whenUnlocked_of_noErr unlocked, if_pos malformed,
    raise_of_noErr unlocked]
  rfl

theorem exec_stEncode_of_state (state : s.sv = true) : exec .stEncode s = .next (issue .stEncode s) := by
  simp only [exec, execStEncode, whenIdle_of_idle idle, whenUnlocked_of_noErr unlocked, requireState_of_sv state]

end

/-- Settles O19: the check of DIGLEN refuses the command before it is issued. -/
theorem malformedDigestClearsSv : Obligations.MalformedDigestClearsSv := by
  unfold Obligations.MalformedDigestClearsSv
  exact fun _ => exec_stDecode_of_malformed

/-- Settles O12: DIGLEN is accepted at issue, and the completion step is `completeStDecode` and `retire`. -/
theorem stDecodeLoadsTheState : Obligations.StDecodeLoadsTheState := by
  unfold Obligations.StDecodeLoadsTheState
  intro s idle unlocked length
  refine ⟨exec_stDecode_of_length idle unlocked length, decodeState s.din, fun i => getElem_decodeState s.din i.isLt, ?_⟩
  rw [completionStep_of_slot rfl]
  simp [completionEffect, retire, idle]

/-- Settles O13: SV is accepted at issue, and the completion step is `completeStEncode` and `retire`. -/
theorem stEncodeSerialisesTheState : Obligations.StEncodeSerialisesTheState := by
  unfold Obligations.StEncodeSerialisesTheState
  intro s idle unlocked state
  refine ⟨exec_stEncode_of_state idle unlocked state, encodeState s.h,
    fun i j => byteAt_encodeState s.h i.isLt j.isLt, ?_⟩
  rw [completionStep_of_slot rfl]
  simp [completionEffect, retire, idle]

end Sys2Proof.Machine
end

section
/-! The Block Sequencer (43_sequencer.md): the issue and completion of SEQ_CLEAR, SEQ_PUSH, SEQ_FLUSH and SEQ_PUSHPAD (R164 to R168),
one appended byte (R161, R162), and that the stream commands compute `extend` (R163, R169). -/

namespace Sys2Proof.Machine

/-! ### One appended byte (R161, R162) -/

theorem storeByte_blk_of_lt {s : State} (lt : s.fill.toNat < 64) (b : Byte) :
    (storeByte b s).blk = s.blk.set s.fill.toNat b := by
  ext j
  simp [Vector.getElem_set, Vector.getElem_setIfInBounds]

/-- Settles O18: below FILL = 63 a byte is only stored, and at 63 `blockStep` follows. -/
theorem appendedByteFillsOrCompresses : Obligations.AppendedByteFillsOrCompresses := by
  unfold Obligations.AppendedByteFillsOrCompresses
  intro s b lt
  have stored := storeByte_blk_of_lt lt b
  constructor
  · intro below
    rw [appendByte_of_lt below, ← stored]
    rfl
  · intro last
    have wraps : BitVec.ofNat 32 ((s.blkcnt.toNat + 1) % 2 ^ 32) = s.blkcnt + 1 := by bv_omega
    rw [appendByte_of_eq last, ← stored, wraps]
    rfl

/-! ### The CMD writes (R104) -/

section
variable {s : State} (idle : s.slot = none) (unlocked : s.err = false)
include idle unlocked

theorem exec_seqClear_of_unlocked : exec .seqClear s = .next (issue .seqClear s) := by
  simp only [exec, execSeqClear, whenIdle_of_idle idle, whenUnlocked_of_noErr unlocked]

variable (state : s.sv = true)
include state

theorem checks_pass_of_state (i : Instr) (act : State → State) : whenIdle (whenUnlocked (requireState i act)) s = act s := by
  rw [whenIdle_of_idle idle, whenUnlocked_of_noErr unlocked, requireState_of_sv state]

theorem exec_seqPush_of_state {n : BitVec 3} (legal : countLegal n = true) :
    exec (.seqPush n) s = .next (issue (.seqPush n) s) := by
  rw [exec_seqPush_of_legal_count legal, checks_pass_of_state idle unlocked state]

theorem exec_seqFlush_of_state : exec .seqFlush s = .next (issue .seqFlush s) := by
  rw [exec, execSeqFlush, checks_pass_of_state idle unlocked state]

theorem exec_seqPushpad_of_pad (pad : s.padv = true) : exec .seqPushpad s = .next (issue .seqPushpad s) := by
  rw [exec, execSeqPushpad, checks_pass_of_state idle unlocked state, if_pos pad]

end

/-! ### The completion steps (R105) -/

section
variable (i : Instr) (s : State)

theorem appendByte_issue (b : Byte) : appendByte b (issue i s) = issue i (appendByte b s) := by
  unfold appendByte
  rw [apply_ite (issue i)]
  rfl

/-- The byte stream does not depend on the slot. -/
theorem appendBytes_issue (bs : List Byte) : appendBytes bs (issue i s) = issue i (appendBytes bs s) := by
  induction bs generalizing s with
  | nil => rfl
  | cons b bs ih => rw [appendBytes, appendByte_issue, ih, appendBytes]

/-- The completion step of an issued command that appends bytes: it appends them, and the slot is empty again. -/
theorem retire_appendBytes_issue (bs : List Byte) : retire (appendBytes bs (issue i s)) = retire (appendBytes bs s) := by
  rw [appendBytes_issue]
  rfl

end

/-- R18: LANES lists the bytes at bits 0, 8, 16 and 24, and a count of at most 4 takes the first ones. -/
theorem pushedBytes_eq_map {n : BitVec 3} (le : n.toNat ≤ 4) (s : State) :
    pushedBytes n s = (List.range n.toNat).map fun j => s.data.extractLsb' (8 * j) 8 := by
  have lanes_eq : lanes s.data = (List.range 4).map fun j => s.data.extractLsb' (8 * j) 8 := rfl
  rw [pushedBytes, lanes_eq, ← List.map_take, List.take_range, Nat.min_eq_left le]

theorem paddingBytes_eq_map {s : State} (le : s.padlen.toNat ≤ 72) :
    paddingBytes s = (List.range s.padlen.toNat).map fun j => byteAt s.pad j := by
  refine List.ext_getElem (by simp [paddingBytes_length le]) fun j lt _ => ?_
  rw [paddingBytes_length le] at lt
  simp [paddingBytes, byteAt_of_lt s.pad (Nat.lt_of_lt_of_le lt le)]

/-- Settles O14: SEQ_CLEAR passes no check of its own, and the completion step is `sequencerClear` and `retire`. -/
theorem seqClearDiscardsTheStream : Obligations.SeqClearDiscardsTheStream := by
  unfold Obligations.SeqClearDiscardsTheStream
  intro s idle unlocked
  refine ⟨exec_seqClear_of_unlocked idle unlocked, ?_⟩
  rw [completionStep_of_slot rfl]
  simp [completionEffect, retire, idle]

/-- Settles O15: the count and SV are accepted at issue, and the bytes pushed are the first lanes. -/
theorem seqPushAppendsDataLanes : Obligations.SeqPushAppendsDataLanes := by
  unfold Obligations.SeqPushAppendsDataLanes
  intro s n idle unlocked state ge le
  have legal : countLegal n = true := by simp [countLegal, ge, le]
  refine ⟨exec_seqPush_of_state idle unlocked state legal, ?_⟩
  rw [completionStep_of_slot rfl, ← pushedBytes_eq_map le]
  exact retire_appendBytes_issue (.seqPush n) s _

/-- Settles O16: SV is accepted at issue, and the completion step is one `blockStep`, or nothing, and `retire`. -/
theorem seqFlushCompressesAPartialBlock : Obligations.SeqFlushCompressesAPartialBlock := by
  unfold Obligations.SeqFlushCompressesAPartialBlock
  intro s idle unlocked state
  refine ⟨exec_seqFlush_of_state idle unlocked state, fun empty => ?_, fun filled => ?_⟩ <;> rw [completionStep_of_slot rfl]
  · simp [completionEffect, completeSeqFlush, retire, idle, empty]
  · have positive : s.fill.toNat > 0 := by bv_omega
    simp [completionEffect, completeSeqFlush, retire, idle, positive]

/-- Settles O17: SV and PADV are accepted at issue, and the bytes appended are those of PAD below PADLEN. -/
theorem seqPushpadAppendsThePadding : Obligations.SeqPushpadAppendsThePadding := by
  unfold Obligations.SeqPushpadAppendsThePadding
  intro s idle unlocked state pad le
  refine ⟨exec_seqPushpad_of_pad idle unlocked state pad, ?_⟩
  rw [completionStep_of_slot rfl, ← paddingBytes_eq_map le]
  exact retire_appendBytes_issue .seqPushpad s _

/-! ### Partitions and the fold over them (R163) -/

theorem partition_nil : partition [] 0 = Vector.replicate 64 0 := by
  ext j
  simp [partition]

theorem partition_drop (d : List Byte) (k : Nat) : partition (d.drop (64 * k)) 0 = partition d k := by
  ext j
  simp [partition]

/-- A full partition does not change when the data grows. -/
theorem partition_append_of_le {d : List Byte} {k : Nat} (full : 64 * (k + 1) ≤ d.length) (e : List Byte) :
    partition (d ++ e) k = partition d k := by
  ext j lt
  have within : 64 * k + j < d.length := by omega
  simp [partition, List.getElem?_append_left within]

theorem foldBlocks_append (h : ChainState) {d : List Byte} {k : Nat} (full : 64 * k ≤ d.length) (e : List Byte) :
    foldBlocks h (d ++ e) k = foldBlocks h d k := by
  induction k with
  | zero => rfl
  | succ k ih => rw [foldBlocks, foldBlocks, ih (by omega), partition_append_of_le full]

/-- One more byte is stored in the last, partial partition, behind the bytes that are there. -/
theorem partition_concat (d : List Byte) (b : Byte) : partition (d ++ [b]) (d.length / 64) =
    (partition d (d.length / 64)).setIfInBounds (d.length % 64) b := by
  ext j lt
  have position : 64 * (d.length / 64) + d.length % 64 = d.length := Nat.div_add_mod _ _
  rw [Vector.getElem_setIfInBounds]
  split
  · next here =>
    subst here
    simp [partition, position]
  · next elsewhere =>
    rcases Nat.lt_or_gt_of_ne (show 64 * (d.length / 64) + j ≠ d.length by omega) with before | beyond
    · simp [partition, List.getElem?_append_left before]
    · have beyond_all : (d ++ [b]).length ≤ 64 * (d.length / 64) + j := by rwa [List.length_append]
      simp [partition, List.getElem?_eq_none beyond_all, List.getElem?_eq_none beyond.le]

/-! ### The stream (R169) -/

theorem Absorbed.of_empty {h0 : ChainState} {s : State} (h : s.h = h0) (fill : s.fill = 0) (blk : s.blk = Vector.replicate 64 0)
    (blkcnt : s.blkcnt = 0) : Absorbed h0 [] s :=
  ⟨h, by rw [fill]; rfl, blk.trans partition_nil.symm, blkcnt⟩

section
variable {h0 : ChainState} {d : List Byte} {s : State} (absorbed : Absorbed h0 d s)
include absorbed

theorem Absorbed.retire : Absorbed h0 d (retire s) := ⟨absorbed.h_eq, absorbed.fill_eq, absorbed.blk_eq, absorbed.blkcnt_eq⟩

/-- BLK is the partial partition. -/
theorem Absorbed.blk_eq_partition : s.blk = partition d (d.length / 64) := by rw [absorbed.blk_eq, partition_drop]

theorem Absorbed.appendByte (b : Byte) : Absorbed h0 (d ++ [b]) (appendByte b s) := by
  have blk_eq := absorbed.blk_eq_partition
  obtain ⟨h_eq, fill_eq, -, blkcnt_eq⟩ := absorbed
  have length : (d ++ [b]).length = d.length + 1 := List.length_append
  have stored : (storeByte b s).blk = partition (d ++ [b]) (d.length / 64) := by
    rw [storeByte_blk, blk_eq, fill_eq, partition_concat]
  have folded : (storeByte b s).h = foldBlocks h0 (d ++ [b]) (d.length / 64) := by
    rw [storeByte_h, h_eq, foldBlocks_append h0 (by omega)]
  by_cases last : s.fill.toNat = 63
  · have blocks : (d ++ [b]).length / 64 = d.length / 64 + 1 := by omega
    have rest : (d ++ [b]).length % 64 = 0 := by omega
    rw [appendByte_of_eq last]
    refine ⟨?_, by rw [rest]; rfl, ?_, ?_⟩
    · rw [blockStep_h, blocks, foldBlocks, folded, stored]
    · rw [blockStep_blk, List.drop_eq_nil_of_le (by omega), partition_nil]
    · rw [blockStep_blkcnt, storeByte_blkcnt, blkcnt_eq, blocks, BitVec.ofNat_add]
      rfl
  · have blocks : (d ++ [b]).length / 64 = d.length / 64 := by omega
    have fill := appendByte_fill_toNat (s := s) (by omega) b
    rw [appendByte_of_lt (by omega)] at fill ⊢
    exact ⟨by rw [blocks, folded], by omega, by rw [partition_drop, blocks, stored], by rw [blocks, storeByte_blkcnt, blkcnt_eq]⟩

theorem Absorbed.appendBytes (bs : List Byte) : Absorbed h0 (d ++ bs) (appendBytes bs s) := by
  induction bs generalizing d s with
  | nil => rwa [List.append_nil]
  | cons b bs ih =>
    have rest := ih (absorbed.appendByte b)
    rwa [List.append_assoc] at rest

/-- R166, R169: what is left after whole blocks is the last partition of `extend`, zero-padded. -/
theorem Absorbed.completeSeqFlush_eq_extend : (completeSeqFlush s).h = extend h0 d ∧ (completeSeqFlush s).fill = 0 ∧
    (completeSeqFlush s).blkcnt = BitVec.ofNat 32 ((d.length + 63) / 64) := by
  have blk_eq := absorbed.blk_eq_partition
  obtain ⟨h_eq, fill_eq, -, blkcnt_eq⟩ := absorbed
  rw [completeSeqFlush, extend]
  split
  · next filled =>
    have blocks : (d.length + 63) / 64 = d.length / 64 + 1 := by omega
    rw [blocks, foldBlocks, blockStep_h, blockStep_blkcnt, h_eq, blk_eq, blkcnt_eq, BitVec.ofNat_add]
    exact ⟨rfl, rfl, rfl⟩
  · next empty =>
    have blocks : (d.length + 63) / 64 = d.length / 64 := by omega
    rw [blocks]
    exact ⟨h_eq, by bv_omega, blkcnt_eq⟩

end

/-- Settles O37: a cleared sequencer has absorbed the empty stream, every append extends what it has absorbed, and SEQ_FLUSH
compresses the partial partition that is left. -/
theorem commandsComputeExtend : Obligations.CommandsComputeExtend := by
  unfold Obligations.CommandsComputeExtend
  refine ⟨fun s decoding => ?_, fun s clearing => ?_, fun s h0 d n absorbed pushing => ?_,
    fun s h0 d absorbed padding => ?_, fun s h0 d absorbed flushing => ?_⟩
  · rw [completionStep_of_slot decoding]
    exact (Absorbed.of_empty (completeStDecode_h s) (completeStDecode_fill s) (completeStDecode_blk s)
      (completeStDecode_blkcnt s)).retire
  · rw [completionStep_of_slot clearing]
    exact (Absorbed.of_empty (completeSeqClear_h s) (completeSeqClear_fill s) (completeSeqClear_blk s)
      (completeSeqClear_blkcnt s)).retire
  · rw [completionStep_of_slot pushing]
    exact (absorbed.appendBytes (pushedBytes n s)).retire
  · rw [completionStep_of_slot padding]
    exact (absorbed.appendBytes (paddingBytes s)).retire
  · rw [completionStep_of_slot flushing]
    exact absorbed.completeSeqFlush_eq_extend

end Sys2Proof.Machine
end

section
/-! The control commands NOP and CLR_ERR (R190, R192): their CMD writes in an idle state and while a command is in flight. -/

namespace Sys2Proof.Machine

/-! ### NOP -/

section
variable {s : State}

theorem exec_nop_of_idle (idle : s.slot = none) : exec .nop s = .next s := by
  simp only [exec, execNop, whenIdle_of_idle idle, id]

theorem exec_nop_of_busy (busy : s.slot ≠ none) : exec .nop s = .next (raise .busyViolation 0x00000008 s) := by
  simp only [exec, execNop, whenIdle_of_busy busy]

end

/-- R102: only the opcode 0x31 of SEQ_PUSH allows a nonzero bit in w[31:8]. -/
theorem not_legalWord_of_upper {w : Word} (not_push : w.extractLsb' 0 8 ≠ 0x31) (upper : w.extractLsb' 8 24 ≠ 0) :
    ¬ LegalWord w := by
  rintro (⟨-, upper_zero⟩ | ⟨push, -⟩)
  · exact upper upper_zero
  · exact not_push push

/-- Settles O9: NOP passes the BUSY check or is refused by it, and a word with OP = 0x00 and bits above it is no legal word. -/
theorem nopChangesNothing : Obligations.NopChangesNothing := by
  unfold Obligations.NopChangesNothing
  refine ⟨fun _ => exec_nop_of_idle, fun _ => exec_nop_of_busy, by decide, fun w s opcode upper idle => ?_⟩
  have not_push : w.extractLsb' 0 8 ≠ 0x31 := by rw [opcode]; decide
  exact hostTransaction_of_illegal (not_legalWord_of_upper not_push upper) idle

/-! ### CLR_ERR -/

section
variable {s : State}

theorem exec_clrErr_of_idle (idle : s.slot = none) : exec .clrErr s = .next (clearError s) := by
  simp only [exec, execClrErr, whenIdle_of_idle idle]

theorem exec_clrErr_of_busy (busy : s.slot ≠ none) : exec .clrErr s = .next (raise .busyViolation 0x00000008 s) := by
  simp only [exec, execClrErr, whenIdle_of_busy busy]

/-- R54 (d): with ERR = 0 the record is clear already. -/
theorem clearError_eq_self (inv : Inv s) (unlocked : s.err = false) : clearError s = s := by
  obtain ⟨code_zero, info_zero⟩ := inv.err_clear unlocked
  rw [clearError, ← unlocked, ← code_zero, ← info_zero]

end

/-- Settles O10: idle, CLR_ERR is `clearError`, which the invariant makes the identity with ERR = 0; busy, it is the busy
violation, which an ERR = 1 leaves unrecorded. -/
theorem clrErrClearsTheRecord : Obligations.ClrErrClearsTheRecord := by
  unfold Obligations.ClrErrClearsTheRecord
  refine ⟨fun _ => exec_clrErr_of_idle, fun s busy unlocked => ?_, fun s busy locked => ?_,
    fun s inv idle unlocked => ?_, by decide⟩
  · rw [exec_clrErr_of_busy busy, raise_of_noErr unlocked, ErrorKind.code]
  · rw [exec_clrErr_of_busy busy, raise_of_err locked]
  · rw [exec_clrErr_of_idle idle, clearError_eq_self inv unlocked]

end Sys2Proof.Machine
end

section
/-! The forge procedure (45_forge_procedure.md): the forged digest as a Merkle–Damgård hash (R214), the resume offset (R217, R218),
and the errors that a host which keeps its duties can meet (R219). -/

namespace Sys2Proof.Machine

/-! ### Extending a digest (R163, R214) -/

theorem partition_append_add {d : List Byte} {k : Nat} (length : d.length = 64 * k) (e : List Byte) (j : Nat) :
    partition (d ++ e) (k + j) = partition e j := by
  rw [← partition_drop (d ++ e), Nat.mul_add, ← List.drop_drop, ← length, List.drop_left, partition_drop]

theorem foldBlocks_append_add (h : ChainState) {d : List Byte} {k : Nat} (length : d.length = 64 * k) (e : List Byte) (j : Nat) :
    foldBlocks h (d ++ e) (k + j) = foldBlocks (foldBlocks h d k) e j := by
  induction j with
  | zero => exact foldBlocks_append h length.ge e
  | succ j ih => rw [← Nat.add_assoc, foldBlocks, foldBlocks, ih, partition_append_add length]

/-- What the length extension rests on: after whole blocks, `extend` goes on from the state they leave. -/
theorem extend_append (h : ChainState) {d : List Byte} (whole : d.length % 64 = 0) (e : List Byte) :
    extend h (d ++ e) = extend (extend h d) e := by
  have length : d.length = 64 * (d.length / 64) := by omega
  have blocks : (d.length + 63) / 64 = d.length / 64 := by omega
  have blocks_append : ((d ++ e).length + 63) / 64 = d.length / 64 + (e.length + 63) / 64 := by
    rw [List.length_append]
    omega
  unfold extend
  rw [blocks_append, blocks, foldBlocks_append_add h length]

theorem resumeOffset_mod (m : List Byte) (l : Nat) : resumeOffset m l % 64 = 0 := add_padding_length_mod (l + m.length)

/-- R214 for any message: `extend` from the state that its hash decodes to hashes the padded message and the bytes after it. -/
theorem extend_merkleDamgard (iv : ChainState) (msg a : List Byte) :
    encodeState (extend (decodeState (merkleDamgard iv msg)) (a ++ padding (msg.length + (padding msg.length).length + a.length))) =
      merkleDamgard iv (msg ++ padding msg.length ++ a) := by
  have whole : (msg ++ padding msg.length).length % 64 = 0 := by
    rw [List.length_append, add_padding_length_mod]
  rw [merkleDamgard, decodeState_encodeState, ← extend_append iv whole, merkleDamgard, List.append_assoc _ a, List.length_append,
    List.length_append]

/-- Settles O35: the message is the secret followed by M, and RO is its padded length. -/
theorem forgedDigestIsTheHash : Obligations.ForgedDigestIsTheHash := by
  unfold Obligations.ForgedDigestIsTheHash
  intro iv secret m a _
  have extended := extend_merkleDamgard iv (secret ++ m) a
  rw [List.length_append, List.append_assoc secret, List.append_assoc secret] at extended
  exact extended

/-! ### The resume offset (R217, R218) -/

/-- R217: the padding fills up the block in which the byte 0x80 and the 8 bytes of the trailer end. -/
theorem add_padding_length (n : Nat) : n + (padding n).length = 64 * ((n + 9 + 63) / 64) := by
  rcases Nat.lt_or_ge (n % 64) 56 with h | h
  · rw [padding_length_of_mod_le (Nat.le_of_lt_succ h)]
    omega
  · rw [padding_length_of_le_mod h]
    omega

/-- Settles O36: the closed form is that of the padded length, FD mentions L only in RO, and RO is itself whole blocks. -/
theorem resumeOffsetDecidesTheForgery : Obligations.ResumeOffsetDecidesTheForgery := by
  unfold Obligations.ResumeOffsetDecidesTheForgery
  refine ⟨fun m l => add_padding_length (l + m.length), fun m a mac l k same => ?_, fun m a l => ?_⟩
  · rw [forgedDigest, same, forgedDigest]
  · have whole := resumeOffset_mod m l
    have whole_padded := add_padding_length_mod (resumeOffset m l + a.length)
    rw [List.length_append]
    omega

/-! ### A host that keeps its duties (R219) -/

/-- From `s` to `t` no free value is drawn, and an error recorded in `t` is one of the commands' own: MALFORMED_DIGEST,
LENGTH_OVERFLOW, NO_STATE or NO_PAD. -/
def OnlyCommandErrors (s t : State) : Prop :=
  t.draws = s.draws ∧ (t.err = true → t.errcode = 1 ∨ t.errcode = 2 ∨ t.errcode = 6 ∨ t.errcode = 7)

theorem OnlyCommandErrors.of_unlocked {s t : State} (draws : t.draws = s.draws) (unlocked : t.err = false) :
    OnlyCommandErrors s t :=
  ⟨draws, fun locked => absurd (unlocked.symm.trans locked) Bool.false_ne_true⟩

/-- R104: a well-formed command passes the BUSY check and that of its count, so only its own checks can refuse it. -/
theorem OnlyCommandErrors.of_exec {i : Instr} {s t : State} (unlocked : s.err = false) (idle : s.slot = none) (wf : i.wf = true)
    (h : exec i s = .next t) : OnlyCommandErrors s t := by
  rcases exec_cases h with ⟨-, rfl⟩ | ⟨-, busy, -⟩ | ⟨-, -, rfl⟩ | ⟨-, -, rfl⟩ | ⟨-, ⟨n, rfl, illegal⟩, -⟩ | ⟨-, -, -, rfl⟩ |
    ⟨-, -, -, rfl⟩ | ⟨-, -, -, rfl⟩ | ⟨-, -, -, rfl | rfl⟩ | ⟨-, -, -, -, rfl⟩
  · exact .of_unlocked (resetAll_draws s) rfl
  · exact absurd idle busy
  · exact .of_unlocked rfl unlocked
  · exact .of_unlocked rfl rfl
  · exact absurd (wf.symm.trans illegal) Bool.false_ne_true.symm
  · exact .of_unlocked rfl unlocked
  · exact ⟨rfl, fun _ => .inr (.inl rfl)⟩
  · exact ⟨rfl, fun _ => .inl rfl⟩
  · exact ⟨rfl, fun _ => .inr (.inr (.inl rfl))⟩
  · exact ⟨rfl, fun _ => .inr (.inr (.inr rfl))⟩
  · exact .of_unlocked rfl unlocked

/-- A legal word written to CMD while BUSY = 0. -/
theorem OnlyCommandErrors.of_legalWord {w : Word} {s t : State} (unlocked : s.err = false) (idle : s.slot = none)
    (legal : LegalWord w) (h : cmdWrite w s = .next t) : OnlyCommandErrors s t := by
  obtain ⟨i, decoded⟩ := decodes_of_legalWord legal
  rw [cmdWrite_of_decode decoded] at h
  exact .of_exec unlocked idle (decode_ok_iff.1 decoded).1 h

/-- R191: SOFT_RESET passes all checks, with BUSY = 1 too. -/
theorem hostTransaction_softReset (s : State) : hostTransaction (cmdTransaction 0x00000001) s = .next (resetAll s) := by
  have decoded : decode 0x00000001 = .ok .softReset := decode_encode (i := .softReset) rfl
  rw [hostTransaction_cmdTransaction, cmdWrite_of_decode decoded]
  rfl

/-- R219: a dutiful transaction is an exact read, SOFT_RESET, a legal command or the write of an operand while BUSY = 0. -/
theorem Dutiful.onlyCommandErrors {tr : Transaction} {s : State} (unlocked : s.err = false) (dutiful : Dutiful tr s) :
    ∃ t, hostTransaction tr s = .next t ∧ OnlyCommandErrors s t := by
  obtain ⟨kind, off, size⟩ := tr
  obtain ⟨r, rfl, rfl, duty⟩ := dutiful
  cases kind with
  | read =>
    obtain ⟨not_cmd, exact_read⟩ := duty
    have draws : (hostRead r s).draws = s.draws := by simp [hostRead, exact_read]
    exact ⟨_, hostTransaction_readWord not_cmd s, .of_unlocked draws ((hostRead_err r s).trans unlocked)⟩
  | write w =>
    rcases duty with ⟨rfl, rfl | ⟨not_busy, legal⟩⟩ | ⟨rw_access, not_busy⟩
    · exact ⟨_, hostTransaction_softReset s, .of_unlocked (resetAll_draws s) rfl⟩
    · obtain ⟨t, h⟩ := cmdWrite_next w s
      exact ⟨t, (hostTransaction_cmdTransaction w s).trans h, .of_legalWord unlocked ((s.busy_eq_false_iff).1 not_busy) legal h⟩
    · exact ⟨_, hostTransaction_writeWord rw_access w ((s.busy_eq_false_iff).1 not_busy),
        .of_unlocked (writeReg_draws r w s) ((writeReg_err r w s).trans unlocked)⟩

/-- Settles O53: the errors of a dutiful transaction are those of `OnlyCommandErrors`, which says it for `draws` as well. -/
theorem dutifulHostMeetsOnlyCommandErrors : Obligations.DutifulHostMeetsOnlyCommandErrors := by
  unfold Obligations.DutifulHostMeetsOnlyCommandErrors
  exact fun _ _ unlocked dutiful => dutiful.onlyCommandErrors unlocked

end Sys2Proof.Machine
end

section
/-! Errors (60_exceptions.md): which error is recorded (R231, R236), what the lock of ERR = 1 lets through (R238), what the CMD
write of a command leaves unchanged (R230), and that only a completion or a reset disturbs a command in flight (R235, R278). -/

namespace Sys2Proof.Machine

/-! ### The lock -/

/-- R238: the lock comes before every check of the operands, so a legal long command is dropped whatever they are. -/
theorem exec_long_of_locked {i : Instr} {s : State} (idle : s.slot = none) (locked : s.err = true) (wf : i.wf = true)
    (long : i.isLong = true) : exec i s = .next s := by
  obtain ⟨t, h⟩ := exec_next i s
  suffices same : t = s by rw [h, same]
  rcases exec_cases h with ⟨rfl, -⟩ | ⟨-, busy, -⟩ | ⟨-, -, same⟩ | ⟨rfl, -⟩ | ⟨-, ⟨n, rfl, illegal⟩, -⟩ | ⟨-, -, -, same⟩ |
    ⟨-, -, unlocked, -⟩ | ⟨-, -, unlocked, -⟩ | ⟨-, -, unlocked, -⟩ | ⟨-, -, unlocked, -⟩
  · cases long
  · exact absurd idle busy
  · exact same
  · cases long
  · cases wf.symm.trans illegal
  · exact same
  all_goals cases locked.symm.trans unlocked

/-- With BUSY = 0 no command is in flight that could write the register, so every read is exact. -/
theorem hostTransaction_readWord_of_idle {r : Reg} (not_cmd : r ≠ .cmd) {s : State} (idle : s.slot = none) :
    hostTransaction (readWord r.offset) s = .next { s with rdata := readReg r s } := by
  rw [hostTransaction_readWord not_cmd, hostRead_exact fun i slot => by simp [idle] at slot]

/-- Settles O23: long commands meet the lock; the short commands, the RW writes and the reads have no such check. -/
theorem lockDropsLongCommands : Obligations.LockDropsLongCommands := by
  unfold Obligations.LockDropsLongCommands
  intro s idle locked
  exact ⟨fun _ => exec_long_of_locked idle locked, exec_nop_of_idle idle, exec_clrErr_of_idle idle, rfl,
    fun _ w rw_access => hostTransaction_writeWord rw_access w idle, fun _ not_cmd => hostTransaction_readWord_of_idle not_cmd idle⟩

/-! ### The first error -/

/-- Settles O24: `raise` by the two values of ERR, and the codes by the kinds of error. -/
theorem firstErrorIsKept : Obligations.FirstErrorIsKept := by
  unfold Obligations.FirstErrorIsKept
  intro s e info
  exact ⟨fun locked => raise_of_err locked e info, fun unlocked => raise_of_noErr unlocked e info, by cases e <;> rfl⟩

/-! ### The frame of a CMD write -/

/-- From `s` to `t` at most the error record changes. -/
def RecordOnly (s t : State) : Prop := t = { s with err := t.err, errcode := t.errcode, errinfo := t.errinfo }

theorem RecordOnly.refl (s : State) : RecordOnly s s := rfl

theorem RecordOnly.of_raise (e : ErrorKind) (info : Word) (s : State) : RecordOnly s (raise e info s) := by
  rcases raise_cases e info s with ⟨-, same⟩ | ⟨-, recorded⟩
  · rw [same]
    exact .refl s
  · rw [recorded]
    rfl

/-- R104, R230: a command other than SOFT_RESET is issued, or writes no more than the error record and, when its operand is
refused, the validity bit of what it would have computed. -/
theorem exec_frame_cases {i : Instr} {s t : State} (no_reset : i ≠ .softReset) (h : exec i s = .next t) :
    RecordOnly s t ∨ (i = .padGen ∧ RecordOnly { s with padv := false } t) ∨
      (i = .stDecode ∧ RecordOnly { s with sv := false } t) ∨ (s.slot = none ∧ i.isLong = true ∧ t = issue i s) := by
  rcases exec_cases h with ⟨reset, -⟩ | ⟨-, -, rfl⟩ | ⟨-, -, rfl⟩ | ⟨-, -, rfl⟩ | ⟨-, -, rfl⟩ | ⟨-, -, -, rfl⟩ |
    ⟨padGen, -, -, rfl⟩ | ⟨stDecode, -, -, rfl⟩ | ⟨-, -, -, rfl | rfl⟩ | ⟨long, idle, -, -, issued⟩
  · exact absurd reset no_reset
  · exact .inl (.of_raise _ _ s)
  · exact .inl (.refl _)
  · exact .inl rfl
  · exact .inl (.of_raise _ _ s)
  · exact .inl (.refl _)
  · exact .inr (.inl ⟨padGen, rfl⟩)
  · exact .inr (.inr (.inl ⟨stDecode, rfl⟩))
  · exact .inl rfl
  · exact .inl rfl
  · exact .inr (.inr (.inr ⟨idle, long, issued⟩))

/-- Settles O45: each kind of answer writes some of the slot, the error record, SV and PADV. -/
theorem cmdWriteFrame : Obligations.CmdWriteFrame := by
  unfold Obligations.CmdWriteFrame
  intro i s t no_reset h
  rcases exec_frame_cases no_reset h with record | ⟨padGen, record⟩ | ⟨stDecode, record⟩ | ⟨idle, long, issued⟩
  · rw [show t = _ from record]
    exact ⟨rfl, fun _ => rfl, fun _ => rfl, .inl rfl, fun _ => rfl⟩
  · rw [show t = _ from record]
    exact ⟨rfl, fun _ => rfl, fun other => absurd padGen other, .inl rfl, fun _ => rfl⟩
  · rw [show t = _ from record]
    exact ⟨rfl, fun other => absurd stDecode other, fun _ => rfl, .inl rfl, fun _ => rfl⟩
  · subst issued
    refine ⟨rfl, fun _ => rfl, fun _ => rfl, .inr ⟨idle, rfl, long, rfl⟩, ?_⟩
    rintro (rfl | rfl) <;> cases long

/-! ### The command in flight -/

@[simp] theorem completionEffect_events (i : Instr) (s : State) : (completionEffect i s).events = s.events := by
  cases i <;> simp [completionEffect]

/-- R85: no event changes the events to come. -/
theorem EventEffect.events_eq {e : Event} {s t : State} (effect : EventEffect e s t) : t.events = s.events := by
  cases effect with
  | reset => exact resetAll_events s
  | error kind info => exact raise_events kind info s
  | write r w => exact writeReg_events r w s
  | complete i => exact completionEffect_events i s
  | silent | clearError | lengthOverflow | malformedDigest | issue | request | answer => rfl

/-- Settles O47: the step keeps the command in flight, and takes its own event alone off the list. -/
theorem inFlightCommandIsUndisturbed : Obligations.InFlightCommandIsUndisturbed := by
  unfold Obligations.InFlightCommandIsUndisturbed
  intro s t e rest busy he no_completion no_reset h
  obtain ⟨kept, -, -⟩ := step_keeps_inFlight busy he no_reset (fun complete => absurd complete no_completion) h
  have events : t.events = rest := (EventEffect.of_step he h).events_eq
  rw [← events]
  exact kept

end Sys2Proof.Machine
end

section
/-! Reset and the hazards of a busy unit (70_reset_and_hazards.md): the reset state (R260, R263), writes and reads of the host while
BUSY = 1 (R278, R279), and what an undecoded chaining state cannot reach (R265). -/

namespace Sys2Proof.Machine

/-! ### The undecoded state -/

section
variable {e : Event} {i : Instr} {s t : State}

/-- R104, R265: the commands that read H need SV = 1, so with SV = 0 none of them has passed its checks. -/
theorem IssueChecksHold.command_of_no_state (checks : IssueChecksHold i s) (no_state : s.sv = false) :
    i = .padGen ∨ i = .stDecode ∨ i = .seqClear := by
  cases i with
  | padGen => exact .inl rfl
  | stDecode => exact .inr (.inl rfl)
  | seqClear => exact .inr (.inr rfl)
  | nop | softReset | clrErr => exact checks.elim
  | stEncode | seqFlush => cases no_state.symm.trans checks
  | seqPush | seqPushpad => cases no_state.symm.trans checks.1

theorem IssueChecksHold.coreRequests_of_no_state (checks : IssueChecksHold i s) (no_state : s.sv = false) :
    coreRequests i s = [] := by
  rcases checks.command_of_no_state no_state with rfl | rfl | rfl <;> rfl

/-- The outstanding request would be one of those of the command in flight, which has none. -/
theorem Inv.core_of_no_state (inv : Inv s) (no_state : s.sv = false) : s.core = none := by
  cases slot : s.slot with
  | none => exact (inv.core_idle slot).1
  | some i =>
    cases core : s.core with
    | none => rfl
    | some r =>
      have next := inv.core_next i r slot core
      simp [(inv.slot_checked i slot).coreRequests_of_no_state no_state] at next

/-- A request that an event sends is one of the command in flight, which has none. -/
theorem EventEffect.core_of_no_state (effect : EventEffect e s t) (inv : Inv s) (no_state : s.sv = false) : t.core = none := by
  have core := inv.core_of_no_state no_state
  cases effect with
  | request i r slot next => simp [(inv.slot_checked i slot).coreRequests_of_no_state no_state] at next
  | reset | complete | answer => rfl
  | error kind info => exact (raise_core kind info s).trans core
  | write r w => exact (writeReg_core r w s).trans core
  | silent | clearError | lengthOverflow | malformedDigest | issue => exact core

/-- Without SV only ST_DECODE among the commands in flight writes H, and none writes DOUT. -/
theorem IssueChecksHold.completion_of_no_state (checks : IssueChecksHold i s) (no_state : s.sv = false) :
    (completionEffect i s).dout = s.dout ∧ ((completionEffect i s).h = s.h ∨ (completionEffect i s).sv = true) := by
  rcases checks.command_of_no_state no_state with rfl | rfl | rfl
  · exact ⟨completePadGen_dout s, .inl (completePadGen_h s)⟩
  · exact ⟨completeStDecode_dout s, .inr (completeStDecode_sv s)⟩
  · exact ⟨rfl, .inl rfl⟩

end

/-- Settles O52: under the invariant the command in flight reads no H while SV = 0, and nothing else does. -/
theorem undecodedStateNeverLeaves : Obligations.UndecodedStateNeverLeaves := by
  unfold Obligations.UndecodedStateNeverLeaves
  intro s t e rest inv no_state he h
  have effect := EventEffect.of_step he h
  refine ⟨inv.core_of_no_state no_state, effect.core_of_no_state (inv.of_events rest) no_state,
    or_iff_not_imp_left.2 fun no_reset => ?_⟩
  rcases effect.results no_reset with kept | ⟨i, -, slot, rfl⟩
  · exact ⟨kept.dout, .inl kept.h⟩
  · exact ((inv.of_events rest).slot_checked i slot).completion_of_no_state no_state

/-! ### Writes while BUSY = 1 -/

section
variable {s : State}

/-- R278: a busy unit drops the write of an RW register. -/
theorem hostTransaction_writeWord_of_busy {r : Reg} (rw_access : r.access = .rw) (w : Word) (busy : s.slot ≠ none) :
    hostTransaction (writeWord r.offset w) s = .next (raise .busyViolation (zextOffset r.offset) s) := by
  have not_cmd : r ≠ .cmd := by
    rintro rfl
    cases rw_access
  simp [hostTransaction, writeWord, checkAccess_at_offset, rw_access, typeAllows, hostWrite_of_ne_cmd not_cmd,
    (s.busy_eq_true_iff).2 busy]

/-- R278: and every word of CMD but SOFT_RESET's. -/
theorem hostTransaction_cmdTransaction_of_busy {w : Word} (other : w ≠ 0x00000001) (busy : s.slot ≠ none) :
    hostTransaction (cmdTransaction w) s = .next (raise .busyViolation 0x00000008 s) := by
  obtain ⟨t, h⟩ := cmdWrite_next w s
  rw [hostTransaction_cmdTransaction, h, cmdWrite_of_busy busy other h]

end

/-- The offsets of the operands, written out as R278 lists them. -/
theorem rw_register_at {off : Offset} (operand : off = 0x010 ∨ off = 0x014 ∨ off = 0x01C ∨ off = 0x020 ∨
      (0x040 ≤ off.toNat ∧ off.toNat < 0x060 ∧ off.toNat % 4 = 0)) :
    ∃ r : Reg, r.access = .rw ∧ off = r.offset := by
  rcases operand with rfl | rfl | rfl | rfl | ⟨lower, upper, aligned⟩
  · exact ⟨.lenLo, rfl, rfl⟩
  · exact ⟨.lenHi, rfl, rfl⟩
  · exact ⟨.diglen, rfl, rfl⟩
  · exact ⟨.data, rfl, rfl⟩
  · have word_lt : (off.toNat - 0x040) / 4 < 8 := by omega
    refine ⟨.din ⟨(off.toNat - 0x040) / 4, word_lt⟩, rfl, BitVec.eq_of_toNat_eq ?_⟩
    rw [din_offset_toNat]
    dsimp only
    omega

/-- Settles O30: the write is one of CMD or of an operand, and raising an error leaves the slot. -/
theorem writesWhileBusyAreDropped : Obligations.WritesWhileBusyAreDropped := by
  unfold Obligations.WritesWhileBusyAreDropped
  intro s off w busy restricted
  refine ⟨?_, raise_slot _ _ s⟩
  rcases restricted with ⟨rfl, other⟩ | operand
  · exact hostTransaction_cmdTransaction_of_busy other busy
  · obtain ⟨r, rw_access, rfl⟩ := rw_register_at operand
    exact hostTransaction_writeWord_of_busy rw_access w busy

/-! ### Reads while BUSY = 1 -/

theorem isStream_iff (r : Reg) : r.isStream = true ↔ (∃ k, r = .h k) ∨ (∃ k, r = .blk k) ∨ r = .fill ∨ r = .blkcnt := by
  cases r <;> simp [Reg.isStream]

/-- CMD is a register of no command's results. -/
theorem ne_cmd_of_unspecified {i : Instr} {r : Reg} (unspecified : unspecifiedDuring i r = true) : r ≠ .cmd := by
  rintro rfl
  cases i <;> cases unspecified

/-- R279: STATUS reads exactly whatever command is in flight. -/
theorem status_specified (i : Instr) : unspecifiedDuring i .status = false := by
  cases i <;> rfl

/-- R279: a read of a result of the command in flight is a free draw. -/
theorem hostRead_free {i : Instr} {r : Reg} {s : State} (slot : s.slot = some i) (unspecified : unspecifiedDuring i r = true) :
    hostRead r s = { s with rdata := Config.freeRead s.draws, draws := s.draws + 1 } := by
  simp [hostRead, readUnspecified, slot, unspecified]

/-- R104: a CMD write that fills the slot did nothing but issue its command. -/
theorem eq_issue_of_slot {i j : Instr} {s t : State} (idle : s.slot = none) (h : exec i s = .next t) (slot : t.slot = some j) :
    t = issue i s := by
  have filled : t.slot ≠ s.slot := by simp [slot, idle]
  have no_reset : i ≠ .softReset := by
    rintro rfl
    cases h
    cases slot
  obtain ⟨-, -, -, kept | ⟨-, -, -, issued⟩, -⟩ := cmdWriteFrame i s t no_reset h
  · exact absurd kept filled
  · exact issued

/-- Settles O29: the table by the kinds of register, the two kinds of read, and the frame of an issue. -/
theorem inFlightResultsReadUnspecified : Obligations.InFlightResultsReadUnspecified := by
  unfold Obligations.InFlightResultsReadUnspecified
  refine ⟨fun r => ⟨?_, isStream_iff r, ?_, ?_, ?_⟩, fun s i r slot unspecified => ?_, fun s i r slot not_cmd specified => ?_,
    fun s => ?_, fun s t i idle h slot => ?_⟩
  · cases r <;> simp [unspecifiedDuring]
  · cases r <;> simp [unspecifiedDuring]
  · cases r <;> simp [unspecifiedDuring]
  · rintro i (⟨n, rfl⟩ | rfl | rfl) <;> exact isStream_iff r
  · rw [hostTransaction_readWord (ne_cmd_of_unspecified unspecified), hostRead_free slot unspecified]
  · rw [hostTransaction_readWord not_cmd, hostRead_exact]
    rintro j slot'
    cases slot.symm.trans slot'
    exact specified
  · have exact_read : hostRead .status s = { s with rdata := statusWord s } := hostRead_exact fun i _ => status_specified i
    rw [← exact_read]
    exact hostTransaction_readWord (r := .status) (by decide) s
  · rw [eq_issue_of_slot idle h slot]
    exact ⟨rfl, rfl⟩

/-! ### Reset -/

/-- Settles O7: both are `resetAll`, whose elements stand in `State.reset`. -/
theorem bothResetsGiveTheResetState : Obligations.BothResetsGiveTheResetState := by
  unfold Obligations.BothResetsGiveTheResetState
  intro s
  refine ⟨resetAll s, rfl, rfl, rfl, rfl, rfl, rfl, rfl, rfl, rfl, rfl, fun i => ?_, fun j => ⟨?_, ?_⟩, fun j => ?_, fun j => ?_,
    rfl, rfl, rfl, rfl⟩
  all_goals simp [State.reset]

theorem bufferWord_zero (n k : Nat) : bufferWord (Vector.replicate n 0) k = 0 := by
  have byte (j : Nat) : byteAt (Vector.replicate n 0) j = 0 := by
    simp only [byteAt, Vector.getElem?_replicate]
    split <;> rfl
  simp only [bufferWord, byte]
  rfl

/-- R32: every register but the two constants has the reset value 0. -/
theorem readReg_reset {r : Reg} (not_id : r ≠ .id) (not_version : r ≠ .version) : readReg r State.reset = 0 := by
  cases r with
  | id => exact absurd rfl not_id
  | version => exact absurd rfl not_version
  | din k | dout k | blk k | pad k => exact bufferWord_zero _ k
  | h k => simp [readReg, wordAt, State.reset]
  | _ => rfl

/-- Settles O8, by the registers. -/
theorem resetStateIsZero : Obligations.ResetStateIsZero := by
  unfold Obligations.ResetStateIsZero
  exact ⟨rfl, rfl, fun _ => readReg_reset⟩

end Sys2Proof.Machine
end
